-- ==== Sys2Proof/Word.lean ====
section
/-! DEFINITION. The widths of the part: bytes of frames, sixteen-bit words of the window, circuit and link numbers. -/

namespace Sys2Proof

/-- A byte of a frame, and every eight-bit field of a record (00, section 1.7). -/
abbrev Byte := BitVec 8

/-- A word of the host window, and every sixteen-bit modular counter and epoch (00, section 1.7). -/
abbrev Word := BitVec 16

/-- A circuit number, 0..63 (R1). -/
abbrev CircuitNo := Fin 64

/-- A link number, 0..3 (00, section 1.6). -/
abbrev LinkNo := Fin 4

end Sys2Proof
end

