-- ==== Sys2Proof/Syntax.lean ====
section
/-! DEFINITION. The events of the part, one constructor of `Instr` per row of `spec/opcode_table.json`, with the types of their operands. -/

namespace Sys2Proof

/-- The level of a serial line: mark is high and idle, space is low (07, opening). -/
inductive LineLevel where
  | mark
  | space
deriving DecidableEq, Repr

/-- The three samples of one bit, at the 7th, 8th and 9th of its 16 sample periods (R145). -/
structure BitSamples where
  seventh : LineLevel
  eighth : LineLevel
  ninth : LineLevel
deriving DecidableEq, Repr

/-- What stands on a link's lines as LINK-CONFIGURE completes (R144): the level of the input line, that of
the internal path (at mark while nothing is sent on it, R149, and looked at only while something is), and
whether the start bit of a cut delimiter that is due has begun. -/
structure LinesNow where
  rxd : LineLevel
  path : LineLevel
  delimiterBegun : Bool
deriving DecidableEq, Repr

/-- The two moments of a power-on (R178): the supply rises, and the power-on hold ends with RESETN low or
not. -/
inductive PowerMoment where
  | supplyRises
  | holdEnds (resetnLow : Bool)
deriving DecidableEq, Repr

/-- What the receiver sees of one character from its start edge on (R145, R146): the samples of the
start bit, of the eight data bits (least significant first), of the parity bit (looked at only where
parity is configured) and of the first stop bit, and whether the input stays at space until one
character time has passed since the start edge. -/
structure CharacterSamples where
  start : BitSamples
  data : Vector BitSamples 8
  parity : BitSamples
  stop : BitSamples
  heldAtSpace : Bool
deriving DecidableEq, Repr

/-- What a receiver sees at one of the moments at which its state can change (R145, R146): the start edge
of a character; space where it has seen no change from mark; or a character, judged at its first stop
bit. A character whose start edge was no event of its own is seen whole. -/
inductive ReceiverInput where
  | startEdge
  | spaceWithoutEdge
  | character (samples : CharacterSamples)
deriving DecidableEq, Repr

/-- A fault that the Line Interface delivers (R146). The two FRAMING faults differ in where they leave
the receiver: case 1 of R146 has seen the return to mark, case 2 has not. -/
inductive LineFault where
  | parity
  | framingEnded
  | framingHeld
  | breakCondition
deriving DecidableEq, Repr

/-- The cause for which the Frame Codec discards a frame (R118, R119). BAD-ESCAPE tells the delimiter
from any other byte after the escape, because R118 leaves the assembly in different states. -/
inductive FrameFault where
  | badEscape (atDelimiter : Bool)
  | oversize
  | badLength
  | unknownKind
  | crc
deriving DecidableEq, Repr

/-- The address header of every frame but HELLO (R114). -/
structure Header where
  dst : Byte
  dstGen : Byte
  src : Byte
  srcGen : Byte
deriving DecidableEq, Repr

/-- The host commands, by the codes of R169; `bad` stands for a command that completes BAD-COMMAND (R168). -/
inductive CommandName where
  | partConfigure
  | partQuery
  | clear
  | linkConfigure
  | linkStart
  | linkStop
  | linkQuery
  | serviceRegister
  | serviceAmend
  | serviceWithdraw
  | serviceQuery
  | circuitCall
  | circuitAnswer
  | circuitRefuse
  | circuitClose
  | circuitAbort
  | circuitRelease
  | circuitQuery
  | circuitAmend
  | circuitFind
  | send
  | receive
  | nextNotice
  | poolQuery
  | bad
deriving DecidableEq, Repr

/-- The events of the part. A command's row is its COMPLETION (R167): it works on the words that
COMMAND_START captured, so it has no operand of its own; LINK_CONFIGURE alone also sees its link's
lines at that moment (R144). -/
inductive Instr where
  /-- PART_CONFIGURE, R171. -/
  | partConfigure
  /-- PART_QUERY, R173. -/
  | partQuery
  /-- CLEAR, R174. -/
  | clear
  /-- LINK_CONFIGURE, R143, R144, with the link's lines at the completion. -/
  | linkConfigure (lines : LinesNow)
  /-- LINK_START, R122. -/
  | linkStart
  /-- LINK_STOP, R130. -/
  | linkStop
  /-- LINK_QUERY, R136. -/
  | linkQuery
  /-- SERVICE_REGISTER, R28. -/
  | serviceRegister
  /-- SERVICE_AMEND, R29. -/
  | serviceAmend
  /-- SERVICE_WITHDRAW, R31. -/
  | serviceWithdraw
  /-- SERVICE_QUERY, R30. -/
  | serviceQuery
  /-- CIRCUIT_CALL, R48. -/
  | circuitCall
  /-- CIRCUIT_ANSWER, R43. -/
  | circuitAnswer
  /-- CIRCUIT_REFUSE, R44. -/
  | circuitRefuse
  /-- CIRCUIT_CLOSE, R56. -/
  | circuitClose
  /-- CIRCUIT_ABORT, R64. -/
  | circuitAbort
  /-- CIRCUIT_RELEASE, R20. -/
  | circuitRelease
  /-- CIRCUIT_QUERY, R19. -/
  | circuitQuery
  /-- CIRCUIT_AMEND, R23. -/
  | circuitAmend
  /-- CIRCUIT_FIND, R22. -/
  | circuitFind
  /-- SEND, R97. -/
  | send
  /-- RECEIVE, R91. -/
  | receive
  /-- NEXT_NOTICE, R155. -/
  | nextNotice
  /-- POOL_QUERY, R93. -/
  | poolQuery
  /-- BAD_COMMAND, R168. -/
  | badCommand
  /-- MAILBOX_WRITE, R166: a bus write of `value` to the word at the five-bit address `word`. -/
  | mailboxWrite (word : BitVec 5) (value : Word)
  /-- STATUS_WRITE, R164. -/
  | statusWrite (value : Word)
  /-- CONTROL_WRITE, R158. -/
  | controlWrite (value : Word)
  /-- RESETN_PULSE, R176: RESETN has been low for `lowNs` nanoseconds; `rxd` holds the levels of the
  four input lines at that moment (R151). -/
  | resetnPulse (lowNs : Nat) (rxd : Vector LineLevel 4)
  /-- RESETN_RELEASE, R177. -/
  | resetnRelease
  /-- POWER_ON, R178: the beginning or the end of the power-on hold, with the levels of the four input
  lines (R145). -/
  | powerOn (moment : PowerMoment) (rxd : Vector LineLevel 4)
  /-- HELLO_FRAME, R124, R126. -/
  | helloFrame (l : LinkNo) (epoch seen : Word)
  /-- OPEN_FRAME, R34. -/
  | openFrame (l : LinkNo) (hdr : Header) (service quota : Byte)
  /-- ACCEPT_FRAME, R50, R55. -/
  | acceptFrame (l : LinkNo) (hdr : Header) (quota : Byte)
  /-- REFUSE_FRAME, R53. -/
  | refuseFrame (l : LinkNo) (hdr : Header) (reason : Byte)
  /-- CLOSE_FRAME, R54, R60, R62, R68, R70. -/
  | closeFrame (l : LinkNo) (hdr : Header) (reason : Byte)
  /-- CLOSED_FRAME, R59. -/
  | closedFrame (l : LinkNo) (hdr : Header)
  /-- DATA_FRAME, R80. -/
  | dataFrame (l : LinkNo) (hdr : Header) (sequence : Byte) (payload : List Byte)
  /-- GRANT_FRAME, R88. -/
  | grantFrame (l : LinkNo) (hdr : Header) (limit : Word)
  /-- ASK_FRAME, R87. -/
  | askFrame (l : LinkNo) (hdr : Header)
  /-- FRAME_DISCARD, R119, R120. -/
  | frameDiscard (l : LinkNo) (cause : FrameFault)
  /-- LINE_FAULT, R147. -/
  | lineFault (l : LinkNo) (cause : LineFault)
  /-- RETRY_TIMER_EXPIRY, R49, R58. -/
  | retryTimerExpiry (c : CircuitNo)
  /-- HOLD_TIMER_EXPIRY, R45. -/
  | holdTimerExpiry (c : CircuitNo)
  /-- ASK_TIMER_EXPIRY, R90. -/
  | askTimerExpiry (c : CircuitNo)
  /-- HELLO_TIMER_EXPIRY, R123. -/
  | helloTimerExpiry (l : LinkNo)
  /-- DEAD_TIMER_EXPIRY, R128. -/
  | deadTimerExpiry (l : LinkNo)
  /-- TRANSMISSION_COMPLETION, R109. -/
  | transmissionCompletion (l : LinkNo)
  /-- COMMAND_START, R165: a bus write of `value` to word 0. -/
  | commandStart (value : Word)
  /-- RECEIVED_CHARACTER, R118, R145, R146. -/
  | receivedCharacter (l : LinkNo) (input : ReceiverInput)
  /-- RETURN_TO_MARK, R145. -/
  | returnToMark (l : LinkNo)
  /-- CUT_DELIMITER_COMPLETION, R148. -/
  | cutDelimiterCompletion (l : LinkNo)
deriving DecidableEq, Repr

end Sys2Proof
end

