-- ==== Sys2Proof/Decode.lean ====
section
/-! DEFINITION. What a value written to word 0 names (R165, R168, R169), and the table's words: no row
of `spec/opcode_table.json` gives bits, so no word spells an event. -/

namespace Sys2Proof

/-- The command that a command code names (R169). Every other code, 00h included, names none. -/
def commandOfCode (code : Byte) : CommandName :=
  match code with
  | 0x01#8 => .partConfigure
  | 0x02#8 => .partQuery
  | 0x03#8 => .clear
  | 0x08#8 => .linkConfigure
  | 0x09#8 => .linkStart
  | 0x0A#8 => .linkStop
  | 0x0B#8 => .linkQuery
  | 0x10#8 => .serviceRegister
  | 0x11#8 => .serviceAmend
  | 0x12#8 => .serviceWithdraw
  | 0x13#8 => .serviceQuery
  | 0x18#8 => .circuitCall
  | 0x19#8 => .circuitAnswer
  | 0x1A#8 => .circuitRefuse
  | 0x1B#8 => .circuitClose
  | 0x1C#8 => .circuitAbort
  | 0x1D#8 => .circuitRelease
  | 0x1E#8 => .circuitQuery
  | 0x1F#8 => .circuitAmend
  | 0x20#8 => .circuitFind
  | 0x28#8 => .send
  | 0x29#8 => .receive
  | 0x30#8 => .nextNotice
  | 0x31#8 => .poolQuery
  | _ => .bad

/-- The command that a value written to word 0 starts: its low byte is the code, and a high byte other
than 0 makes it a command that completes BAD-COMMAND (R165, R168). -/
def commandOfWrite (value : Word) : CommandName :=
  if value.toNat / 256 = 0 then commandOfCode (value.setWidth 8) else .bad

/-- The event that a word of the opcode table spells. The table gives no row any bits. -/
def decodeTableWord (_nbits _w : Nat) : Option Instr := none

end Sys2Proof
end

