-- ==== Sys2Proof/Config.lean ====
section
/-! DEFINITION. The quantities of the part (00, section 1.8) and the one value the spec leaves open. -/

namespace Sys2Proof

/-- Cells of the receive pool (R73). -/
def Config.receiveCells : Nat := 512

/-- Cells of the transmit pool (R95). -/
def Config.transmitCells : Nat := 256

/-- Items an answer list can hold (R134). -/
def Config.answerCapacity : Nat := 8

/-- Entries the Service Table can hold (R25). -/
def Config.serviceCapacity : Nat := 16

/-- Bytes of the largest unstuffed frame (R115). -/
def Config.maxFrame : Nat := 40

/-- The IDENT word: part code 64h, revision 01h (R163). -/
def Config.ident : Word := 0x6401

/-- The reference clock in Hz (R140). -/
def Config.referenceHz : Nat := 18432000

/-- The time in nanoseconds for which RESETN must be low to be taken (R176). -/
def Config.resetFilterNs : Nat := 500

/-- The reason byte of a CLOSE owed by a record that is neither CLOSING nor ENDED with a cause that R61
lists, by the codes of its state and end cause. R61 says that no such CLOSE arises; the byte is free
(log entry 15, DESIGN CHOICE). -/
opaque Config.closeReasonElsewhere (stateCode causeCode : Nat) : Byte

end Sys2Proof
end

