-- ==== Sys2Proof/Machine/State.lean ====
section
/-! DEFINITION. Everything the spec gives the part to hold, as plain data, and its value after power-on. -/

namespace Sys2Proof.Machine

/-- Why a step would stop with a fault: it never does. The spec gives the part no event that stops it
(09, R168: between a command's start and its completion the part goes on taking every other event), so
no constructor exists and nothing raises one. Safe: no behaviour is cut off. -/
inductive Fault where
deriving DecidableEq, Repr

/-- Why a step is refused. -/
inductive Refusal where
  /-- Raised by `exec` for a row that has no meaning in the model; no row is refused. Safe: it only
  stops. -/
  | notModelled (mnemonic : String)
deriving DecidableEq, Repr

/-- A timer is stopped (`none`) or running with the interval in milliseconds it was started with (R11,
R121, R172; log entry 2). -/
abbrev Timer := Option Nat

/-! ### Circuit records (chapter 1) -/

/-- The peer circuit and peer generation of a record (R4). -/
structure Peer where
  circuit : Byte
  generation : Byte
deriving DecidableEq, Repr

/-- One item of a receive queue: its sequence number and its bytes, whose number is its length (R6). -/
structure RxItem where
  sequence : Byte
  payload : List Byte
deriving DecidableEq, Repr

/-- R3. -/
inductive Direction where
  | outgoing
  | incoming
deriving DecidableEq, Repr

/-- The close reason of a CLOSING record (R9). -/
inductive CloseReason where
  | normal
  | loss
  | violation
deriving DecidableEq, Repr

/-- The end cause of an ENDED record (R10). -/
inductive EndCause where
  | localClose
  | localAbort
  | peerClose
  | refused
  | noAnswer
  | closeTimeout
  | sequenceLoss
  | creditViolation
  | superseded
  | withdrawn
  | linkStopped
  | linkLost
  | peerRestart
deriving DecidableEq, Repr

/-- The state of an allocated record with the fields that are present in that state alone: the close
reason in CLOSING (R9), and the end cause, end detail and frames discarded in ENDED (R10). FREE is the
absence of a record. -/
inductive Phase where
  | calling
  | offered
  | opened
  | draining
  | closing (reason : CloseReason)
  | ended (cause : EndCause) (detail : Option Byte) (discarded : Nat)
deriving DecidableEq, Repr

/-- The six kinds of control frame, in the order in which a circuit sends them (R8, R104). -/
inductive ControlKind where
  | accept
  | grant
  | ask
  | openRequest
  | close
  | closed
deriving DecidableEq, Repr

/-- The owed set (R8). -/
structure Owed where
  accept : Bool := false
  grant : Bool := false
  ask : Bool := false
  openRequest : Bool := false
  close : Bool := false
  closed : Bool := false
deriving DecidableEq, Repr

/-- The fields of a record that is not FREE (R3 to R12). -/
structure Record where
  phase : Phase
  direction : Direction
  link : LinkNo
  service : Byte
  peer : Option Peer
  tag : Word
  priority : Fin 4
  quota : Nat
  threshold : Nat
  rxQueue : List RxItem
  expected : Byte
  received : Word
  advertised : Word
  depth : Nat
  txQueue : List (List Byte)
  nextSeq : Byte
  sent : Word
  creditLimit : Word
  roomWanted : Bool
  owed : Owed
  retryCount : Nat
  retryTimer : Timer
  holdTimer : Timer
  askTimer : Timer
deriving DecidableEq, Repr

/-- A circuit of the table: its generation, kept in every state, and its record, absent in FREE (R1, R3,
R12). -/
structure Circuit where
  generation : Byte
  record : Option Record
deriving DecidableEq, Repr

/-! ### The Service Table (chapter 2) -/

/-- R25. -/
inductive AdmissionMode where
  | auto
  | hold
deriving DecidableEq, Repr

/-- One service entry (R25). -/
structure Service where
  number : Byte
  linkMask : BitVec 4
  mode : AdmissionMode
  listening : Bool
  limit : Nat
  active : Nat
  quota : Nat
  threshold : Nat
  priority : Fin 4
  depth : Nat
  tag : Word
deriving DecidableEq, Repr

/-! ### Frames and links (chapters 5, 6 and 7) -/

/-- A frame by its kind, without its CRC (R114, R115). -/
inductive Frame where
  | hello (epoch seen : Word)
  | openRequest (hdr : Header) (service quota : Byte)
  | accept (hdr : Header) (quota : Byte)
  | refuse (hdr : Header) (reason : Byte)
  | close (hdr : Header) (reason : Byte)
  | closed (hdr : Header)
  | data (hdr : Header) (sequence : Byte) (payload : List Byte)
  | grant (hdr : Header) (limit : Word)
  | ask (hdr : Header)
deriving DecidableEq, Repr

/-- An item of an answer list (R106). -/
inductive AnswerItem where
  | refuse (hdr : Header) (reason : Byte)
  | close (hdr : Header) (reason : Byte)
  | closed (hdr : Header)
deriving DecidableEq, Repr

/-- The handshake state of a link (R121). -/
inductive LinkState where
  | stopped
  | seeking
  | up
deriving DecidableEq, Repr

/-- The cause of a link end (R121, R127). -/
inductive DownCause where
  | linkStopped
  | linkLost
  | peerRestart
deriving DecidableEq, Repr

/-- The last fault cause of a link (R119). -/
inductive FaultCause where
  | none
  | parity
  | framing
  | breakCondition
  | badEscape
  | oversize
  | badLength
  | unknownKind
  | crc
deriving DecidableEq, Repr

/-- The assembly state of a Frame Codec (R118). -/
inductive Assembly where
  | hunt
  | gather
  | escaped
deriving DecidableEq, Repr

/-- R139. -/
inductive Parity where
  | none
  | even
  | odd
deriving DecidableEq, Repr

/-- R139. -/
inductive StopBits where
  | one
  | two
deriving DecidableEq, Repr

/-- The line configuration (R139). -/
structure LineConfig where
  divisor : Word
  fraction : BitVec 5
  parity : Parity
  stopBits : StopBits
  loopback : Bool
deriving DecidableEq, Repr

/-- The receiver (R139, R145). A character being received uses the configuration that stood when its
start bit began. -/
inductive ReceiverState where
  | ready
  | receiving (config : LineConfig)
  | waiting
deriving DecidableEq, Repr

/-- The line transmitter (R139): IDLE, or SENDING the characters of a frame, the begun character of a
frame that was cut, or a cut delimiter (R141, R148), with the configuration that stood when the start
bit of what it sends began. -/
inductive LineTransmitter where
  | idle
  | sendingFrame (config : LineConfig)
  | finishing (config : LineConfig)
  | sendingDelimiter (config : LineConfig)
deriving DecidableEq, Repr

/-- One link: its link record (R121), its scheduler (R101), the receive side of its Frame Codec (R118)
and its Line Interface (R139): configuration, line transmitter, receiver, the cut delimiters still to end
(R148) and the internal path of a looped link (R149). The scheduler's transmitter is SENDING while
`onLine` holds a frame. -/
structure Link where
  state : LinkState
  ownEpoch : Word
  peerEpoch : Word
  helloDue : Bool
  helloTimer : Timer
  deadTimer : Timer
  controlList : List CircuitNo
  answerList : List AnswerItem
  lastFault : FaultCause
  lastDown : Option DownCause
  onLine : Option Frame
  lastServed : Vector CircuitNo 4
  assembly : Assembly
  buffer : List Byte
  config : LineConfig
  transmitter : LineTransmitter
  receiver : ReceiverState
  cutDelimiters : Nat
  loopPath : List Byte
deriving DecidableEq, Repr

/-! ### Notices (chapter 8) -/

/-- The notice kinds of a circuit (R152). -/
inductive CircuitNotice where
  | opened
  | offered
  | data
  | room
  | ended
deriving DecidableEq, Repr

/-- The notice kinds of a link (R152). -/
inductive LinkNotice where
  | up
  | down
  | fault
deriving DecidableEq, Repr

/-- The pending set of a circuit (R152). -/
structure CircuitPending where
  opened : Bool := false
  offered : Bool := false
  data : Bool := false
  room : Bool := false
  ended : Bool := false
deriving DecidableEq, Repr

/-- The pending set of a link (R152). -/
structure LinkPending where
  up : Bool := false
  down : Bool := false
  fault : Bool := false
deriving DecidableEq, Repr

/-- One of the 68 sources of notices (R152). -/
inductive Source where
  | circuit (c : CircuitNo)
  | link (l : LinkNo)
deriving DecidableEq, Repr

/-! ### The host port (chapter 9) -/

/-- The command in progress with what its start captured (R165). -/
structure Command where
  name : CommandName
  code : Byte
  args : Vector Word 8
  data : Vector Word 16
deriving DecidableEq, Repr

/-- The six part settings, in the units of the window (09, section 9.3). -/
structure Settings where
  hello : Nat
  deadCount : Nat
  retry : Nat
  retryLimit : Nat
  answerHold : Nat
  ask : Nat
deriving DecidableEq, Repr

/-- The whole part. `held` says that it is held by RESETN or by the power-on hold (R177, R178), and
`powering` that it is in the power-on hold, which RESETN does not end. BUSY, NOTICE, the UP bits and INT are computed from it.
`pending` is the model's own: the events that wait, first in, first out (log entry 1). -/
structure State where
  circuits : Vector Circuit 64
  services : List Service
  reservationTotal : Nat
  cellsHeld : Nat
  txFree : Nat
  links : Vector Link 4
  circuitNotices : Vector CircuitPending 64
  linkNotices : Vector LinkPending 4
  noticeList : List Source
  noticeEnable : Bool
  completionEnable : Bool
  word0 : Word
  args : Vector Word 8
  data : Vector Word 16
  done : Bool
  collide : Bool
  command : Option Command
  settings : Settings
  held : Bool
  powering : Bool
  pending : List Instr
deriving DecidableEq, Repr

/-! ### The values after power-on -/

/-- R24: FREE with generation 0. -/
def Circuit.reset : Circuit := { generation := 0, record := none }

/-- R139: 115 200 baud, no parity, one stop bit, loopback off. -/
def LineConfig.reset : LineConfig :=
  { divisor := 10, fraction := 0, parity := .none, stopBits := .one, loopback := false }

/-- R113, R137, R151; the receiver is READY for an input at mark (log entry 5). -/
def Link.reset : Link :=
  { state := .stopped
    ownEpoch := 0
    peerEpoch := 0
    helloDue := false
    helloTimer := none
    deadTimer := none
    controlList := []
    answerList := []
    lastFault := .none
    lastDown := none
    onLine := none
    lastServed := Vector.replicate 4 63
    assembly := .hunt
    buffer := []
    config := LineConfig.reset
    transmitter := .idle
    receiver := .ready
    cutDelimiters := 0
    loopPath := [] }

/-- R173: 10, 4, 20, 5, 20, 25. -/
def Settings.reset : Settings :=
  { hello := 10, deadCount := 4, retry := 20, retryLimit := 5, answerHold := 20, ask := 25 }

/-- The part right after power-on with RESETN high and every input line at mark (R24, R47, R94, R113,
R137, R151, R162, R178; log entry 5). -/
def State.reset : State :=
  { circuits := Vector.replicate 64 Circuit.reset
    services := []
    reservationTotal := 0
    cellsHeld := 0
    txFree := Config.transmitCells
    links := Vector.replicate 4 Link.reset
    circuitNotices := Vector.replicate 64 { }
    linkNotices := Vector.replicate 4 { }
    noticeList := []
    noticeEnable := false
    completionEnable := false
    word0 := 0
    args := Vector.replicate 8 0
    data := Vector.replicate 16 0
    done := false
    collide := false
    command := none
    settings := Settings.reset
    held := false
    powering := false
    pending := [] }

end Sys2Proof.Machine
end

