-- ==== Sys2Proof/Machine/Operands.lean ====
section
/-! DEFINITION. The words of the window as operands: how fields share a word, the codes of R3, R9, R10,
R119, R121 and R170, and the argument layouts that more than one rule uses. -/

namespace Sys2Proof.Machine

/-! ### Bytes and words -/

/-- Two byte-sized values in one word, the first named in the high byte (R163). -/
def pack (hi lo : Byte) : Word := hi ++ lo

/-- The high byte of a word. -/
def hiByte (w : Word) : Byte := w.extractLsb' 8 8

/-- The low byte of a word. -/
def loByte (w : Word) : Byte := w.setWidth 8

/-- A count in a byte of the window. -/
def byteOf (n : Nat) : Byte := BitVec.ofNat 8 n

/-- A count in a word of the window. -/
def wordOf (n : Nat) : Word := BitVec.ofNat 16 n

/-- Whether a value lies in `lo`..`hi`, both ends included (00, section 1.7). -/
def inRange (lo hi : Nat) (n : Nat) : Bool := decide (lo ≤ n) && decide (n ≤ hi)

/-- The circuit that a number 0..63 names; none above 63 (R2). -/
def circuitOf (n : Nat) : Option CircuitNo := if h : n < 64 then some ⟨n, h⟩ else none

/-- The link that a number 0..3 names; none above 3. -/
def linkOf (n : Nat) : Option LinkNo := if h : n < 4 then some ⟨n, h⟩ else none

/-- The priority class that a number 0..3 names; none above 3. -/
def priorityOf (n : Nat) : Option (Fin 4) := if h : n < 4 then some ⟨n, h⟩ else none

/-! ### Codes -/

/-- State codes of R3; FREE is 0. -/
def Phase.code : Phase → Nat
  | .calling => 1
  | .offered => 2
  | .opened => 3
  | .draining => 4
  | .closing _ => 5
  | .ended _ _ _ => 6

/-- The state code of a circuit, FREE included (R3). -/
def Circuit.stateCode (c : Circuit) : Nat :=
  match c.record with
  | none => 0
  | some r => r.phase.code

/-- R3. -/
def Direction.code : Direction → Nat
  | .outgoing => 0
  | .incoming => 1

/-- The wire codes of the CLOSE reasons that a record holds (R9). -/
def CloseReason.code : CloseReason → Byte
  | .normal => 1
  | .loss => 3
  | .violation => 4

/-- The reason of a CLOSE sent for an abort or a forced withdrawal (R61, R114). -/
def closeAbort : Byte := 2

/-- The reason of a CLOSE that answers a stray frame (R71, R114). -/
def closeStray : Byte := 5

/-- The reason of a CLOSE sent for a supersede (R61, R114). -/
def closeSuperseded : Byte := 6

/-- The reason of a REFUSE (R37, R114). -/
def refuseNoService : Byte := 1
def refuseLinkNotAllowed : Byte := 2
def refuseBusy : Byte := 3
def refuseNoCircuit : Byte := 4
def refuseNoRoom : Byte := 5
def refuseDeclined : Byte := 6
def refuseTimeout : Byte := 7

/-- R10. -/
def EndCause.code : EndCause → Nat
  | .localClose => 1
  | .localAbort => 2
  | .peerClose => 3
  | .refused => 4
  | .noAnswer => 5
  | .closeTimeout => 6
  | .sequenceLoss => 8
  | .creditViolation => 9
  | .superseded => 10
  | .withdrawn => 11
  | .linkStopped => 12
  | .linkLost => 13
  | .peerRestart => 14

/-- The end cause that a close reason leads to (R59). -/
def CloseReason.endCause : CloseReason → EndCause
  | .normal => .localClose
  | .loss => .sequenceLoss
  | .violation => .creditViolation

/-- R121. -/
def LinkState.code : LinkState → Nat
  | .stopped => 0
  | .seeking => 1
  | .up => 2

/-- The end cause of the circuits of a link end (R127). -/
def DownCause.endCause : DownCause → EndCause
  | .linkStopped => .linkStopped
  | .linkLost => .linkLost
  | .peerRestart => .peerRestart

/-- R121: 12, 13, 14. -/
def DownCause.code (d : DownCause) : Nat := d.endCause.code

/-- The last down cause as the window shows it, 0 for none (R121). -/
def downCode : Option DownCause → Nat
  | none => 0
  | some d => d.code

/-- R119. -/
def FaultCause.code : FaultCause → Nat
  | .none => 0
  | .parity => 1
  | .framing => 2
  | .breakCondition => 3
  | .badEscape => 4
  | .oversize => 5
  | .badLength => 6
  | .unknownKind => 7
  | .crc => 8

/-- The fault cause that a line fault is recorded under (R147). -/
def faultOfLine : LineFault → FaultCause
  | .parity => .parity
  | .framingEnded => .framing
  | .framingHeld => .framing
  | .breakCondition => .breakCondition

/-- The fault cause that a discard is recorded under (R119). -/
def faultOfFrame : FrameFault → FaultCause
  | .badEscape _ => .badEscape
  | .oversize => .oversize
  | .badLength => .badLength
  | .unknownKind => .unknownKind
  | .crc => .crc

/-- The number of a notice source: circuits 0..63, links 64..67 (R152). -/
def Source.number : Source → Nat
  | .circuit c => c.val
  | .link l => 64 + l.val

/-- Result codes (R170). -/
inductive ResultCode where
  | ok
  | badCommand
  | badArgument
  | noSuchCircuit
  | wrongState
  | linkDown
  | noCircuit
  | noRoom
  | full
  | empty
  | duplicate
  | tableFull
  | noSuchService
  | inUse
  | notFound
  | none
deriving DecidableEq, Repr

/-- R170. -/
def ResultCode.code : ResultCode → Byte
  | .ok => 0
  | .badCommand => 1
  | .badArgument => 2
  | .noSuchCircuit => 3
  | .wrongState => 4
  | .linkDown => 5
  | .noCircuit => 6
  | .noRoom => 7
  | .full => 8
  | .empty => 9
  | .duplicate => 10
  | .tableFull => 11
  | .noSuchService => 12
  | .inUse => 13
  | .notFound => 14
  | .none => 15

/-- What a command's completion writes back: its result and the return words its rule names, by the
number of the ARG or DATA word (R167). -/
structure Reply where
  result : ResultCode
  args : List (Fin 8 × Word) := []
  data : List (Fin 16 × Word) := []
deriving DecidableEq, Repr

/-- A result with no return words. -/
def Reply.bare (r : ResultCode) : Reply := { result := r }

/-- Return words written into a vector of words, first to last. -/
def writeWords {n : Nat} (v : Vector Word n) (ws : List (Fin n × Word)) : Vector Word n :=
  ws.foldl (fun v p => v.set p.1 p.2) v

/-! ### The data area -/

/-- Byte `j` of the data area: byte 2k in the low half of DATAk, byte 2k + 1 in the high half (R163). -/
def dataByte (data : Vector Word 16) (j : Fin 32) : Byte :=
  let w := data[j.val / 2]
  if j.val % 2 = 0 then loByte w else hiByte w

/-- The first `n` bytes of the data area (R97). -/
def payloadOf (data : Vector Word 16) (n : Nat) : List Byte :=
  ((List.finRange 32).take n).map (dataByte data)

/-- The return words that put a payload into the data area, with 0 beyond its length (R91). -/
def payloadWords (payload : List Byte) : List (Fin 16 × Word) :=
  (List.finRange 16).map fun k =>
    (k, pack (payload.getD (2 * k.val + 1) 0) (payload.getD (2 * k.val) 0))

/-! ### Line configuration words (R142) -/

/-- R142: parity code. -/
def Parity.code : Parity → Nat
  | .none => 0
  | .even => 1
  | .odd => 2

/-- The second configuration word (R142). -/
def LineConfig.word2 (c : LineConfig) : Word :=
  pack (c.fraction.setWidth 8)
    (byteOf ((if c.loopback then 8 else 0) + (if c.stopBits = .two then 4 else 0) + c.parity.code))

/-- The configuration that two words give, or none where check 3 of R143 fails: an integer part of 0, a
fraction above 31, a parity code of 3, or any of bits 7..4 set. -/
def LineConfig.ofWords (w1 w2 : Word) : Option LineConfig :=
  if w1 = 0 then none
  else if 31 < (hiByte w2).toNat then none
  else if (loByte w2).toNat % 4 = 3 then none
  else if 16 ≤ (loByte w2).toNat then none
  else some
    { divisor := w1
      fraction := (hiByte w2).setWidth 5
      parity := if (loByte w2).toNat % 4 = 0 then .none
        else if (loByte w2).toNat % 4 = 1 then .even else .odd
      stopBits := if w2.getLsbD 2 then .two else .one
      loopback := w2.getLsbD 3 }

/-- The resulting rate in baud, 18 432 000 / (16 × (I + F/32)), rounded to the nearest whole number with
halves rounded up (R140, R143). -/
def LineConfig.baud (c : LineConfig) : Nat :=
  let d := 32 * c.divisor.toNat + c.fraction.toNat
  (2 * (Config.referenceHz * 2) + d) / (2 * d)

/-! ### Service words (R27) -/

/-- The mode-and-state code of R27. -/
def Service.modeCode (e : Service) : Nat :=
  (if e.mode = .hold then 1 else 0) + (if e.listening then 0 else 2)

/-- The entry that the common layout gives, with active count 0, or none where a range check of R28
fails. The high byte of ARG2 and the host tag are not examined. -/
def Service.ofArgs (a : Vector Word 8) : Option Service :=
  match priorityOf a[5].toNat with
  | none => none
  | some p =>
    if inRange 1 255 a[0].toNat && inRange 0 3 (hiByte a[1]).toNat
        && inRange 1 15 (loByte a[1]).toNat && inRange 1 64 (loByte a[2]).toNat
        && inRange 1 64 a[3].toNat && inRange 1 a[3].toNat a[4].toNat
        && inRange 1 32 a[6].toNat then
      some
        { number := loByte a[0]
          linkMask := (loByte a[1]).setWidth 4
          mode := if (hiByte a[1]).toNat % 2 = 1 then .hold else .auto
          listening := decide ((hiByte a[1]).toNat < 2)
          limit := (loByte a[2]).toNat
          active := 0
          quota := a[3].toNat
          threshold := a[4].toNat
          priority := p
          depth := a[6].toNat
          tag := a[7] }
    else none

/-- The entry in the common layout (R27, R30). -/
def Service.toArgs (e : Service) : List (Fin 8 × Word) :=
  [(0, wordOf e.number.toNat),
   (1, pack (byteOf e.modeCode) (e.linkMask.setWidth 8)),
   (2, pack (byteOf e.active) (byteOf e.limit)),
   (3, wordOf e.quota),
   (4, wordOf e.threshold),
   (5, wordOf e.priority.val),
   (6, wordOf e.depth),
   (7, e.tag)]

/-! ### Part settings (R171) -/

/-- The settings that ARG0..ARG5 give, or none where a range check of R171 fails. -/
def Settings.ofArgs (a : Vector Word 8) : Option Settings :=
  if inRange 1 255 a[0].toNat && inRange 2 15 a[1].toNat && inRange 1 255 a[2].toNat
      && inRange 1 15 a[3].toNat && inRange 1 255 a[4].toNat && inRange 1 255 a[5].toNat then
    some
      { hello := a[0].toNat
        deadCount := a[1].toNat
        retry := a[2].toNat
        retryLimit := a[3].toNat
        answerHold := a[4].toNat
        ask := a[5].toNat }
  else none

/-- H in milliseconds. -/
def Settings.helloMs (p : Settings) : Nat := p.hello * 10

/-- D × H in milliseconds. -/
def Settings.deadMs (p : Settings) : Nat := p.deadCount * (p.hello * 10)

/-- T in milliseconds. -/
def Settings.retryMs (p : Settings) : Nat := p.retry * 10

/-- A in milliseconds. -/
def Settings.holdMs (p : Settings) : Nat := p.answerHold * 100

/-- K in milliseconds. -/
def Settings.askMs (p : Settings) : Nat := p.ask * 10

end Sys2Proof.Machine
end

