-- ==== Sys2Proof/Machine/Codec.lean ====
section
/-! DEFINITION. The Frame Codec (chapter 6): layout (R115), CRC (R117), stuffing (R116), assembly (R118)
and the four checks of a received frame (R119). -/

namespace Sys2Proof.Machine

/-- The delimiter byte (R116). -/
def delimiter : Byte := 0xF8

/-- The escape byte (R116). -/
def escape : Byte := 0xF9

/-! ### Layout -/

/-- The four bytes of the address header (R114). -/
def headerBytes (h : Header) : List Byte := [h.dst, h.dstGen, h.src, h.srcGen]

/-- The bytes of a frame before its CRC (R115). -/
def Frame.bytes : Frame → List Byte
  | .hello e n => [0x01, hiByte e, loByte e, hiByte n, loByte n]
  | .openRequest h service quota => 0x02 :: headerBytes h ++ [service, quota]
  | .accept h quota => 0x03 :: headerBytes h ++ [quota]
  | .refuse h reason => 0x04 :: headerBytes h ++ [reason]
  | .close h reason => 0x05 :: headerBytes h ++ [reason]
  | .closed h => 0x06 :: headerBytes h
  | .data h sequence payload => 0x07 :: headerBytes h ++ sequence :: payload
  | .grant h limit => 0x08 :: headerBytes h ++ [hiByte limit, loByte limit]
  | .ask h => 0x09 :: headerBytes h

/-! ### The check sequence -/

/-- One bit of the CRC register: generator polynomial 1021h, most significant bit first (R117). -/
def crcBit (r : Word) : Word :=
  if r.getLsbD 15 then (r <<< 1) ^^^ 0x1021 else r <<< 1

/-- One byte taken into the CRC register (R117). -/
def crcByte (r : Word) (b : Byte) : Word :=
  let x := r ^^^ pack b 0
  crcBit (crcBit (crcBit (crcBit (crcBit (crcBit (crcBit (crcBit x)))))))

/-- The CRC of a list of bytes; the register starts at FFFFh (R117). -/
def crc16 (bs : List Byte) : Word := bs.foldl crcByte 0xFFFF

/-- A frame with its CRC, high byte first (R115, R116). -/
def Frame.whole (f : Frame) : List Byte :=
  let c := crc16 f.bytes
  f.bytes ++ [hiByte c, loByte c]

/-! ### Stuffing -/

/-- The characters of one byte (R116). -/
def stuffByte (b : Byte) : List Byte :=
  if b = delimiter then [escape, 0x08] else if b = escape then [escape, 0x09] else [b]

/-- The characters of a frame between its delimiters (R116). -/
def stuff (bs : List Byte) : List Byte := bs.flatMap stuffByte

/-- Every character that a frame puts on the line (R116, R141). -/
def lineCharacters (f : Frame) : List Byte := delimiter :: stuff f.whole ++ [delimiter]

/-! ### Checking a received frame -/

/-- Whether a frame length, CRC included, is the one R115 gives for the kind. -/
def lengthOk (kind : Nat) (n : Nat) : Bool :=
  match kind with
  | 1 => n == 7
  | 2 => n == 9
  | 3 => n == 8
  | 4 => n == 8
  | 5 => n == 8
  | 6 => n == 7
  | 7 => decide (9 ≤ n) && decide (n ≤ 40)
  | 8 => n == 9
  | 9 => n == 7
  | _ => false

/-- The frame that bytes without CRC hold, by the layout of R115. -/
def parseBytes : List Byte → Option Frame
  | [k, a, b, c, d] =>
    match k.toNat with
    | 1 => some (.hello (pack a b) (pack c d))
    | 6 => some (.closed ⟨a, b, c, d⟩)
    | 9 => some (.ask ⟨a, b, c, d⟩)
    | _ => none
  | k :: a :: b :: c :: d :: e :: rest =>
    let h : Header := ⟨a, b, c, d⟩
    match k.toNat, rest with
    | 2, [f] => some (.openRequest h e f)
    | 3, [] => some (.accept h e)
    | 4, [] => some (.refuse h e)
    | 5, [] => some (.close h e)
    | 7, payload => some (.data h e payload)
    | 8, [f] => some (.grant h (pack e f))
    | _, _ => none
  | _ => none

/-- The four checks of R119, in order, over the unstuffed bytes of a frame with its CRC. -/
def checkFrame (bs : List Byte) : Except FrameFault Frame :=
  let kind := (bs.headD 0).toNat
  let body := bs.take (bs.length - 2)
  let check := bs.drop (bs.length - 2)
  if bs.length < 7 then .error .badLength
  else if kind < 1 || 9 < kind then .error .unknownKind
  else if !lengthOk kind bs.length then .error .badLength
  else if check ≠ [hiByte (crc16 body), loByte (crc16 body)] then .error .crc
  else match parseBytes body with
    | some f => .ok f
    | none => .error .badLength

/-! ### Assembly -/

/-- What one character does to the assembly (R118): nothing more, the end of a non-empty frame, or a
discard. -/
inductive AssemblyEvent where
  | nothing
  | frameEnd (bytes : List Byte)
  | discard (cause : FrameFault)
deriving DecidableEq, Repr

/-- An unstuffed byte joins the buffer, unless 40 are in it already (R118). -/
def gatherByte (buffer : List Byte) (b : Byte) : Assembly × List Byte × AssemblyEvent :=
  if Config.maxFrame ≤ buffer.length then (.hunt, [], .discard .oversize)
  else (.gather, buffer ++ [b], .nothing)

/-- The table of R118. -/
def assemble (a : Assembly) (buffer : List Byte) (b : Byte) :
    Assembly × List Byte × AssemblyEvent :=
  match a with
  | .hunt =>
    if b = delimiter then (.gather, [], .nothing) else (.hunt, buffer, .nothing)
  | .gather =>
    if b = delimiter then
      (.gather, [], if buffer.isEmpty then .nothing else .frameEnd buffer)
    else if b = escape then (.escaped, buffer, .nothing)
    else gatherByte buffer b
  | .escaped =>
    if b = 0x08 then gatherByte buffer delimiter
    else if b = 0x09 then gatherByte buffer escape
    else if b = delimiter then (.gather, [], .discard (.badEscape true))
    else (.hunt, [], .discard (.badEscape false))

/-- Where a discard leaves the assembly: GATHER where a delimiter ended the frame, HUNT elsewhere
(R118). -/
def discardAssembly : FrameFault → Assembly
  | .badEscape atDelimiter => if atDelimiter then .gather else .hunt
  | .oversize => .hunt
  | .badLength => .gather
  | .unknownKind => .gather
  | .crc => .gather

end Sys2Proof.Machine
end

