-- ==== Sys2Proof/Machine/Flags.lean ====
section
/-! DEFINITION. Every set of flags: owed sets (R8), pending sets (R152), the STATUS and CONTROL words
(R163, R164), the NOTICE flag (R159) and INT (R160). -/

namespace Sys2Proof.Machine

/-- A flag's value in a flag byte or word. -/
def flag (b : Bool) (value : Nat) : Nat := if b then value else 0

/-! ### The owed set -/

/-- Whether a kind is owed. -/
def Owed.has (o : Owed) : ControlKind → Bool
  | .accept => o.accept
  | .grant => o.grant
  | .ask => o.ask
  | .openRequest => o.openRequest
  | .close => o.close
  | .closed => o.closed

/-- The owed set with one kind set or cleared. -/
def Owed.put (o : Owed) (k : ControlKind) (b : Bool) : Owed :=
  match k with
  | .accept => { o with accept := b }
  | .grant => { o with grant := b }
  | .ask => { o with ask := b }
  | .openRequest => { o with openRequest := b }
  | .close => { o with close := b }
  | .closed => { o with closed := b }

/-- Whether nothing is owed. -/
def Owed.isEmpty (o : Owed) : Bool :=
  !(o.accept || o.grant || o.ask || o.openRequest || o.close || o.closed)

/-- The first owed kind in the order of R104. -/
def Owed.first (o : Owed) : Option ControlKind :=
  if o.accept then some .accept
  else if o.grant then some .grant
  else if o.ask then some .ask
  else if o.openRequest then some .openRequest
  else if o.close then some .close
  else if o.closed then some .closed
  else none

/-- What stays owed when a circuit ends: CLOSE and CLOSED (R14). -/
def Owed.afterEnd (o : Owed) : Owed :=
  { o with accept := false, grant := false, ask := false, openRequest := false }

/-- The owed set as CIRCUIT-QUERY reports it (R8). -/
def Owed.flags (o : Owed) : Nat :=
  flag o.accept 0x01 + flag o.grant 0x02 + flag o.ask 0x04 + flag o.openRequest 0x08
    + flag o.close 0x10 + flag o.closed 0x20

/-! ### Pending sets -/

/-- A circuit's pending set with one kind entered (R153). -/
def CircuitPending.add (p : CircuitPending) : CircuitNotice → CircuitPending
  | .opened => { p with opened := true }
  | .offered => { p with offered := true }
  | .data => { p with data := true }
  | .room => { p with room := true }
  | .ended => { p with ended := true }

/-- Whether a kind is pending for a circuit. -/
def CircuitPending.has (p : CircuitPending) : CircuitNotice → Bool
  | .opened => p.opened
  | .offered => p.offered
  | .data => p.data
  | .room => p.room
  | .ended => p.ended

/-- Whether a circuit has no pending kind. -/
def CircuitPending.isEmpty (p : CircuitPending) : Bool :=
  !(p.opened || p.offered || p.data || p.room || p.ended)

/-- The flags of R152 for a circuit. -/
def CircuitPending.flags (p : CircuitPending) : Nat :=
  flag p.opened 0x01 + flag p.offered 0x02 + flag p.data 0x04 + flag p.room 0x08
    + flag p.ended 0x10

/-- A link's pending set with one kind entered (R153). -/
def LinkPending.add (p : LinkPending) : LinkNotice → LinkPending
  | .up => { p with up := true }
  | .down => { p with down := true }
  | .fault => { p with fault := true }

/-- Whether a kind is pending for a link. -/
def LinkPending.has (p : LinkPending) : LinkNotice → Bool
  | .up => p.up
  | .down => p.down
  | .fault => p.fault

/-- Whether a link has no pending kind. -/
def LinkPending.isEmpty (p : LinkPending) : Bool := !(p.up || p.down || p.fault)

/-- The flags of R152 for a link. -/
def LinkPending.flags (p : LinkPending) : Nat :=
  flag p.up 0x01 + flag p.down 0x02 + flag p.fault 0x04

/-! ### STATUS, CONTROL and INT -/

/-- BUSY: exactly while a command is in progress (R165). -/
def State.busy (s : State) : Bool := s.command.isSome

/-- NOTICE: while the notice list is non-empty (R159). -/
def State.noticeFlag (s : State) : Bool := !s.noticeList.isEmpty

/-- The UP bit of a link (R164). -/
def State.upBit (s : State) (l : LinkNo) : Bool := decide (s.links[l].state = .up)

/-- The STATUS word (R163). -/
def State.statusWord (s : State) : Word :=
  wordOf (flag s.busy 0x1 + flag s.done 0x2 + flag s.noticeFlag 0x4 + flag s.collide 0x8
    + flag (s.upBit 0) 0x100 + flag (s.upBit 1) 0x200 + flag (s.upBit 2) 0x400
    + flag (s.upBit 3) 0x800)

/-- The CONTROL word (R163). -/
def State.controlWord (s : State) : Word :=
  wordOf (flag s.noticeEnable 0x1 + flag s.completionEnable 0x2)

/-- Whether INT is asserted (R160); a held part keeps it deasserted (R177). -/
def State.intAsserted (s : State) : Bool :=
  !s.held && ((s.noticeFlag && s.noticeEnable) || (s.done && s.completionEnable))

end Sys2Proof.Machine
end

