-- ==== Sys2Proof/Machine/Line.lean ====
section
/-! DEFINITION. The Line Interface (chapter 7): sample periods, the bits of a character, and what the
receiver makes of the samples of one character (R139, R140, R145, R146). -/

namespace Sys2Proof.Machine

/-! ### Sample periods and character lengths -/

/-- Whether sample period `j` of a group of 32 is one of the longer ones (R140). -/
def LineConfig.longPeriod (c : LineConfig) (j : Nat) : Bool :=
  decide (j * c.fraction.toNat / 32 < (j + 1) * c.fraction.toNat / 32)

/-- The length in reference periods of sample period `j` of a group of 32 (R140). -/
def LineConfig.samplePeriod (c : LineConfig) (j : Nat) : Nat :=
  c.divisor.toNat + if c.longPeriod j then 1 else 0

/-- The reference periods that a group of 32 sample periods lasts (R140). -/
def LineConfig.groupPeriods (c : LineConfig) : Nat :=
  ((List.range 32).map c.samplePeriod).sum

/-- How many parity bits a character has (R139). -/
def Parity.bits : Parity → Nat
  | .none => 0
  | .even => 1
  | .odd => 1

/-- How many stop bits a character has (R139). -/
def StopBits.bits : StopBits → Nat
  | .one => 1
  | .two => 2

/-- The bits of one character: start, eight data, parity if any, stop (R139). -/
def LineConfig.characterBits (c : LineConfig) : Nat :=
  1 + 8 + c.parity.bits + c.stopBits.bits

/-- The sample periods for which `n` characters sent back to back hold the line (R140, R141). -/
def LineConfig.lineSamples (c : LineConfig) (n : Nat) : Nat := n * (c.characterBits * 16)

/-! ### Sending a character -/

/-- The level of a data bit: 1 is mark, 0 is space. -/
def bitLevel (b : Bool) : LineLevel := if b then .mark else .space

/-- The levels of the eight data bits, least significant first (07, opening). -/
def dataLevels (b : Byte) : List LineLevel := (List.range 8).map fun k => bitLevel (b.getLsbD k)

/-- The levels of the parity bit, if any: EVEN makes the number of mark bits among the data and parity
bits even, ODD makes it odd (R139). -/
def Parity.levels (p : Parity) (b : Byte) : List LineLevel :=
  let odd := decide ((dataLevels b).count .mark % 2 = 1)
  match p with
  | .none => []
  | .even => [bitLevel odd]
  | .odd => [bitLevel !odd]

/-- The levels of a character that is sent, bit by bit: the start bit at space, the data bits, the parity
bit if any, the stop bits at mark (R139). -/
def LineConfig.characterLevels (c : LineConfig) (b : Byte) : List LineLevel :=
  .space :: dataLevels b ++ c.parity.levels b ++ List.replicate c.stopBits.bits .mark

/-- The output, sample period by sample period, while characters are sent back to back: each bit lasts 16
sample periods (R140, R141). -/
def LineConfig.wave (c : LineConfig) (bs : List Byte) : List LineLevel :=
  (bs.flatMap c.characterLevels).flatMap fun x => List.replicate 16 x

/-- The samples of bit `k` of a character, at the 7th, 8th and 9th of its 16 sample periods, in the levels
from the start edge on; the line is at mark after their end (R145). -/
def bitSamples (levels : List LineLevel) (k : Nat) : BitSamples :=
  { seventh := levels.getD (16 * k + 6) .mark
    eighth := levels.getD (16 * k + 7) .mark
    ninth := levels.getD (16 * k + 8) .mark }

/-- What a receiver sees of the levels from a start edge on (R145, R146). The line is held at space where
every sample period of the character time is at space: a mark in any of them, also before the stop bit, is a
return to mark (DESIGN CHOICE; log entry 30). -/
def LineConfig.samplesSeen (c : LineConfig) (levels : List LineLevel) : CharacterSamples :=
  { start := bitSamples levels 0
    data := Vector.ofFn fun k => bitSamples levels (1 + k.val)
    parity := bitSamples levels 9
    stop := bitSamples levels (9 + c.parity.bits)
    heldAtSpace := (List.range (16 * c.characterBits)).all fun j =>
      decide (levels.getD j .mark = .space) }

/-! ### Receiving a character -/

/-- The configuration of the character that a receiver judges: the one its start bit began under where
the start edge was seen by itself, else the one that stands (R139). -/
def Link.characterConfig (x : Link) : LineConfig :=
  match x.receiver with
  | .receiving cfg => cfg
  | .ready => x.config
  | .waiting => x.config

/-! ### Reading a character -/

/-- The majority of three samples (R145). -/
def readBit (b : BitSamples) : LineLevel :=
  if b.seventh = b.eighth then b.seventh else b.ninth

/-- Whether a bit is read as mark. -/
def isMark (b : BitSamples) : Bool := decide (readBit b = .mark)

/-- The eight data bits, least significant first, as a byte (R145). -/
def dataBits (v : Vector BitSamples 8) : Byte :=
  byteOf ((List.finRange 8).map fun i => if isMark v[i] then 2 ^ i.val else 0).sum

/-- How many of the data bits are mark. -/
def markCount (v : Vector BitSamples 8) : Nat := (v.toList.filter isMark).length

/-- Whether the parity bit is right for the data bits: EVEN makes the number of mark bits among the
data and parity bits even, ODD makes it odd (R139). -/
def parityRight (p : Parity) (s : CharacterSamples) : Bool :=
  let marks := markCount s.data + if isMark s.parity then 1 else 0
  match p with
  | .none => true
  | .even => decide (marks % 2 = 0)
  | .odd => decide (marks % 2 = 1)

/-- Whether every data bit, and the parity bit if any, was read as space: the model's reading of case 1 of
R146, whatever single samples were (DESIGN CHOICE; log entry 30). -/
def allSpace (p : Parity) (s : CharacterSamples) : Bool :=
  decide (markCount s.data = 0) && (decide (p = .none) || !isMark s.parity)

/-- What the receiver finds: a false start, a character or a fault (R145, R146). -/
inductive Judgement where
  | falseStart
  | character (b : Byte)
  | fault (f : LineFault)
deriving DecidableEq, Repr

/-- The judgement of one character from its start edge (R145, R146). Where all of its bits are read as
space, case 1 of R146 applies also if the line showed mark meanwhile (DESIGN CHOICE; log entry 30). -/
def judge (p : Parity) (s : CharacterSamples) : Judgement :=
  if isMark s.start then .falseStart
  else if !isMark s.stop then
    if allSpace p s then
      if s.heldAtSpace then .fault .breakCondition else .fault .framingEnded
    else .fault .framingHeld
  else if !parityRight p s then .fault .parity
  else .character (dataBits s.data)

/-- Where a fault leaves the receiver (R146). -/
def faultReceiver : LineFault → ReceiverState
  | .parity => .ready
  | .framingEnded => .ready
  | .framingHeld => .waiting
  | .breakCondition => .waiting

/-- The receiver when it begins to watch an input: READY at mark, WAITING at space (R144, R145). -/
def receiverOf : LineLevel → ReceiverState
  | .mark => .ready
  | .space => .waiting

/-- The receiver when it begins to watch its input while nothing is sent (R145, R151): a looped receiver
watches the internal path, which is at mark then (R149; log entry 19). -/
def receiverAt (loopback : Bool) (level : LineLevel) : ReceiverState :=
  if loopback then .ready else receiverOf level

end Sys2Proof.Machine
end

