-- ==== Sys2Proof/Machine/Ops.lean ====
section
/-! DEFINITION. The named operations over the circuit table, the services, the links and the notices
that the rules of several chapters share: posting (R153), owing (R8, R135), answering (R134), ending
(R14), releasing, allocating (R17), superseding (R36, R52), link end (R127) and the ROOM rule (R99). -/

namespace Sys2Proof.Machine

/-! ### Reading and writing records -/

/-- All circuit numbers in rising order. -/
def allCircuits : List CircuitNo := List.finRange 64

/-- All link numbers in rising order. -/
def allLinks : List LinkNo := List.finRange 4

/-- A circuit of the table (R1). -/
def State.circuit (s : State) (c : CircuitNo) : Circuit := s.circuits[c]

/-- The record of a circuit, none in FREE (R12). -/
def State.record (s : State) (c : CircuitNo) : Option Record := (s.circuit c).record

/-- Write one circuit. -/
def State.setCircuit (s : State) (c : CircuitNo) (x : Circuit) : State :=
  { s with circuits := s.circuits.set c x }

/-- Write the record of one circuit; the generation stays. -/
def State.setRecord (s : State) (c : CircuitNo) (r : Option Record) : State :=
  s.setCircuit c { s.circuit c with record := r }

/-- A link. -/
def State.link (s : State) (l : LinkNo) : Link := s.links[l]

/-- Write one link. -/
def State.setLink (s : State) (l : LinkNo) (x : Link) : State :=
  { s with links := s.links.set l x }

/-- Change one link. -/
def State.onLink (s : State) (l : LinkNo) (f : Link → Link) : State := s.setLink l (f (s.link l))

/-- Do one thing for every circuit, in rising circuit number (R127, R153). -/
def State.forCircuits (s : State) (f : CircuitNo → State → State) : State :=
  allCircuits.foldl (fun t c => f c t) s

/-- Whether a link is UP. -/
def Link.isUp (x : Link) : Bool := decide (x.state = .up)

/-- Whether a state is one of OFFERED, OPEN, DRAINING and CLOSING: the states in which an incoming
circuit is counted and a peer number is held (R16, R26, R34). -/
def Phase.counted : Phase → Bool
  | .calling => false
  | .offered => true
  | .opened => true
  | .draining => true
  | .closing _ => true
  | .ended _ _ _ => false

/-- Whether a state is live (R16). -/
def Phase.live : Phase → Bool
  | .ended _ _ _ => false
  | _ => true

/-- OPEN, DRAINING and CLOSING: the states in which credit works (R80, R85). -/
def Phase.carriesData : Phase → Bool
  | .opened => true
  | .draining => true
  | .closing _ => true
  | _ => false

/-- OPEN and DRAINING: the states in which DATA is sent (R107). -/
def Phase.sendsData : Phase → Bool
  | .opened => true
  | .draining => true
  | _ => false

/-! ### Credit (R77 to R79, R89) -/

/-- The candidate limit (R77). -/
def Record.candidate (r : Record) : Word :=
  r.received + wordOf r.quota - wordOf r.rxQueue.length

/-- The credit a circuit holds (R79). -/
def Record.credit (r : Record) : Word := r.creditLimit - r.sent

/-- Whether a modular difference lies in 1..32767 (R78, R79). -/
def forward (d : Word) : Bool := inRange 1 32767 d.toNat

/-- The three conditions under which the ask timer runs (R89). -/
def Record.blocked (r : Record) : Bool :=
  r.phase.sendsData && !r.txQueue.isEmpty && decide (r.credit = 0)

/-- The ask timer after a change of a record: started with K where the conditions of R89 begin to hold,
left alone where they go on holding, stopped where they fail. -/
def Record.settleAsk (k : Nat) (before after : Record) : Record :=
  { after with
    askTimer := if after.blocked then (if before.blocked then after.askTimer else some k) else none }

/-- A limit offered under the forward-only rule (R78), with its effect on the ask timer (R88, R89). -/
def Record.offerLimit (k : Nat) (r : Record) (limit : Word) : Record :=
  if forward (limit - r.creditLimit) then
    Record.settleAsk k r { r with creditLimit := limit }
  else r

/-- Whether the grant comparison of R85 owes a GRANT. -/
def Record.grantDue (r : Record) : Bool :=
  decide (r.threshold ≤ (r.candidate - r.advertised).toNat)

/-! ### Notices (R153) -/

/-- Post a notice kind for a circuit. -/
def State.postCircuit (s : State) (c : CircuitNo) (k : CircuitNotice) : State :=
  { s with
    circuitNotices := s.circuitNotices.set c (s.circuitNotices[c].add k)
    noticeList :=
      if s.circuitNotices[c].isEmpty then s.noticeList ++ [.circuit c] else s.noticeList }

/-- Post a notice kind for a link. -/
def State.postLink (s : State) (l : LinkNo) (k : LinkNotice) : State :=
  { s with
    linkNotices := s.linkNotices.set l (s.linkNotices[l].add k)
    noticeList := if s.linkNotices[l].isEmpty then s.noticeList ++ [.link l] else s.noticeList }

/-- Empty a circuit's pending set and take it off the notice list (R153, R157). -/
def State.dropNotices (s : State) (c : CircuitNo) : State :=
  { s with
    circuitNotices := s.circuitNotices.set c { }
    noticeList := s.noticeList.filter (· != .circuit c) }

/-! ### Control lists and owed sets (R8, R135) -/

/-- Append a circuit at the tail of a link's control list. -/
def State.joinControl (s : State) (l : LinkNo) (c : CircuitNo) : State :=
  s.onLink l fun x => { x with controlList := x.controlList ++ [c] }

/-- Take a circuit off a link's control list. -/
def State.leaveControl (s : State) (l : LinkNo) (c : CircuitNo) : State :=
  s.onLink l fun x => { x with controlList := x.controlList.filter (· != c) }

/-- Write a record that owes what it owed, less or the same: the circuit leaves the control list when
nothing is owed any more (R135). -/
def State.putLessOwed (s : State) (c : CircuitNo) (r : Record) : State :=
  let t := s.setRecord c (some r)
  if r.owed.isEmpty then t.leaveControl r.link c else t

/-- Add a kind to a circuit's owed set: the circuit joins the control list when nothing was owed before
and its link is UP (R8, R135). -/
def State.owe (s : State) (c : CircuitNo) (k : ControlKind) : State :=
  match s.record c with
  | none => s
  | some r =>
    let t := s.setRecord c (some { r with owed := r.owed.put k true })
    if r.owed.isEmpty && (s.link r.link).isUp then t.joinControl r.link c else t

/-- Remove a kind from a circuit's owed set (R135). -/
def State.disown (s : State) (c : CircuitNo) (k : ControlKind) : State :=
  match s.record c with
  | none => s
  | some r => s.putLessOwed c { r with owed := r.owed.put k false }

/-- Place an item at the tail of a link's answer list; a full list drops it (R134). -/
def State.answer (s : State) (l : LinkNo) (item : AnswerItem) : State :=
  s.onLink l fun x =>
    if x.answerList.length < Config.answerCapacity then
      { x with answerList := x.answerList ++ [item] }
    else x

/-! ### Services (R26) -/

/-- The entry with a service number (R25). -/
def State.service (s : State) (number : Byte) : Option Service :=
  s.services.find? (fun e => decide (e.number = number))

/-- The table with one entry added; kept in rising number, an order nobody can observe (R25, log entry
20). -/
def insertService (e : Service) : List Service → List Service
  | [] => [e]
  | x :: xs => if e.number.toNat < x.number.toNat then e :: x :: xs else x :: insertService e xs

/-- The entry with a number changed. -/
def State.onService (s : State) (number : Byte) (f : Service → Service) : State :=
  { s with services := s.services.map fun e => if e.number = number then f e else e }

/-- A circuit leaves the counted states: 1 off the count of the entry that bears its number, if it is
INCOMING (R26). -/
def State.uncount (s : State) (r : Record) : State :=
  match r.direction with
  | .outgoing => s
  | .incoming => s.onService r.service fun e => { e with active := e.active - 1 }

/-- The circuits that R26 counts for a service number. -/
def State.countFor (s : State) (number : Byte) : Nat :=
  (allCircuits.filter fun c =>
    match s.record c with
    | none => false
    | some r => decide (r.direction = .incoming) && decide (r.service = number)
        && r.phase.counted).length

/-! ### Endings (R14) -/

/-- The record of a circuit right after its ending (R14). -/
def Record.atEnd (r : Record) (cause : EndCause) (detail : Option Byte) : Record :=
  { r with
    phase := .ended cause detail r.txQueue.length
    txQueue := []
    owed := r.owed.afterEnd
    retryCount := 0
    roomWanted := false
    retryTimer := none
    holdTimer := none
    askTimer := none }

/-- A live circuit ends (R14). The ROOM rule for the cells returned is applied at the end of the claim
(R153). -/
def State.endCircuit (s : State) (c : CircuitNo) (cause : EndCause) (detail : Option Byte) : State :=
  match s.record c with
  | none => s
  | some r =>
    let t := s.putLessOwed c (r.atEnd cause detail)
    let t := { t with txFree := t.txFree + r.txQueue.length }
    (t.postCircuit c .ended).uncount r

/-- One circuit is superseded: CLOSE owed, ended SUPERSEDED (R36, R52). -/
def State.supersede (s : State) (c : CircuitNo) : State :=
  (s.owe c .close).endCircuit c .superseded none

/-- A forced close for a sequence gap or a credit violation (R66). -/
def State.forceClose (s : State) (c : CircuitNo) (reason : CloseReason) : State :=
  match s.record c with
  | none => s
  | some r =>
    match r.phase with
    | .opened | .draining =>
      let t := s.setRecord c (some
        { r with phase := .closing reason, retryCount := 0, txQueue := [], askTimer := none })
      State.owe { t with txFree := t.txFree + r.txQueue.length } c .close
    | .closing .normal => s.setRecord c (some { r with phase := .closing reason })
    | _ => s

/-- A circuit whose transmit queue is empty enters CLOSING for a graceful close (R56, R57). -/
def State.beginClosing (s : State) (c : CircuitNo) : State :=
  match s.record c with
  | none => s
  | some r =>
    (s.setRecord c (some { r with phase := .closing .normal, retryCount := 0 })).owe c .close

/-- A record goes to FREE and keeps its generation: its receive cells, its reservation, its owed set and
its notices go with it (R20, R44, R157). -/
def State.freeCircuit (s : State) (c : CircuitNo) : State :=
  match s.record c with
  | none => s
  | some r =>
    let t := ((s.setRecord c none).leaveControl r.link c).dropNotices c
    { t with
      cellsHeld := t.cellsHeld - r.rxQueue.length
      reservationTotal := t.reservationTotal - r.quota }

/-- An offer is refused: a REFUSE item with the reason, then the record is FREE (R44, R45). -/
def State.refuseOffer (s : State) (c : CircuitNo) (reason : Byte) : State :=
  match s.record c with
  | none => s
  | some r =>
    let p : Peer := r.peer.getD { circuit := 255, generation := 0 }
    let hdr : Header := ⟨p.circuit, p.generation, 255, 0⟩
    ((s.answer r.link (.refuse hdr reason)).uncount r).freeCircuit c

/-! ### Allocation (R17, R18) -/

/-- The lowest-numbered FREE record (R17). -/
def State.lowestFree (s : State) : Option CircuitNo :=
  allCircuits.find? fun c => (s.record c).isNone

/-- Whether the reservation total has room for a quota (R18). -/
def State.hasRoom (s : State) (quota : Nat) : Bool :=
  decide (s.reservationTotal + quota ≤ Config.receiveCells)

/-- What the caller gives to an allocation; the other fields start as R17 says. -/
structure Allocation where
  phase : Phase
  direction : Direction
  link : LinkNo
  service : Byte
  peer : Option Peer
  tag : Word
  priority : Fin 4
  quota : Nat
  threshold : Nat
  depth : Nat
  creditLimit : Word
  holdTimer : Timer
deriving DecidableEq, Repr

/-- The record that an allocation fills, with nothing owed yet (R17). -/
def Allocation.record (a : Allocation) : Record :=
  { phase := a.phase
    direction := a.direction
    link := a.link
    service := a.service
    peer := a.peer
    tag := a.tag
    priority := a.priority
    quota := a.quota
    threshold := a.threshold
    rxQueue := []
    expected := 0
    received := 0
    advertised := wordOf a.quota
    depth := a.depth
    txQueue := []
    nextSeq := 0
    sent := 0
    creditLimit := a.creditLimit
    roomWanted := false
    owed := { }
    retryCount := 0
    retryTimer := none
    holdTimer := a.holdTimer
    askTimer := none }

/-- Allocation of a FREE record: the generation advances and the quota is reserved in the same claim
(R17). -/
def State.allocate (s : State) (c : CircuitNo) (a : Allocation) : State :=
  let t := s.setCircuit c
    { generation := (s.circuit c).generation + 1, record := some a.record }
  { t with reservationTotal := t.reservationTotal + a.quota }

/-! ### Taking a peer (R50 to R52) -/

/-- Whether a record is a live circuit on a link that holds a peer circuit number (R16, R34, R52). -/
def Record.holdsPeer (r : Record) (l : LinkNo) (peerCircuit : Byte) : Bool :=
  decide (r.link = l) && r.phase.counted &&
    match r.peer with
    | none => false
    | some p => decide (p.circuit = peerCircuit)

/-- Supersede every other circuit of a link that holds a peer circuit number, in rising number (R52, R153;
their order in the control list is log entry 28). -/
def State.supersedeOthers (s : State) (l : LinkNo) (c : CircuitNo) (peerCircuit : Byte) : State :=
  s.forCircuits fun d t =>
    match t.record d with
    | none => t
    | some r => if decide (d ≠ c) && r.holdsPeer l peerCircuit then t.supersede d else t

/-- A CALLING circuit opens: it takes a peer and a first credit limit, its call is over, the circuits
its peer number supersedes end, and then OPENED is posted (R50, R51, R153). -/
def State.openCall (s : State) (c : CircuitNo) (peer : Peer) (limit : Word) : State :=
  match s.record c with
  | none => s
  | some r =>
    let r' := Record.settleAsk s.settings.askMs r
      { r with
        phase := .opened
        peer := some peer
        creditLimit := limit
        retryTimer := none
        retryCount := 0
        owed := r.owed.put .openRequest false }
    ((s.putLessOwed c r').supersedeOthers r.link c peer.circuit).postCircuit c .opened

/-! ### Links (R121 to R131) -/

/-- The epoch of the next start of a link: from 0 or from 65535 it advances to 1 (R121). -/
def nextEpoch (e : Word) : Word := if e = 65535 then 1 else e + 1

/-- A link begins to seek: a new own epoch, the peer epoch given, SEEKING, HELLO due, the HELLO timer
started with H and the dead timer stopped (R122, R128, R129, R138). -/
def Link.seek (x : Link) (h : Nat) (peerEpoch : Word) : Link :=
  { x with
    state := .seeking
    ownEpoch := nextEpoch x.ownEpoch
    peerEpoch := peerEpoch
    helloDue := true
    helloTimer := some h
    deadTimer := none }

/-- The circuits of a link end, in rising number: the live ones end with the link's cause, and every
owed set of the link is emptied (R127). -/
def State.endCircuitsOf (s : State) (l : LinkNo) (cause : EndCause) : State :=
  s.forCircuits fun c t =>
    match t.record c with
    | none => t
    | some r =>
      if r.link = l then
        let u := if r.phase.live then t.endCircuit c cause none else t
        match u.record c with
        | none => u
        | some r' => u.putLessOwed c { r' with owed := { } }
      else t

/-- A link end (R127). The state that follows is the caller's (R128, R129, R130). -/
def State.endLink (s : State) (l : LinkNo) (cause : DownCause) : State :=
  let t := (s.endCircuitsOf l cause.endCause).onLink l fun x =>
    { x with controlList := [], answerList := [], deadTimer := none, lastDown := some cause }
  t.postLink l .down

/-- A fault of a link (R120). -/
def State.recordFault (s : State) (l : LinkNo) (cause : FaultCause) : State :=
  (s.onLink l fun x => { x with lastFault := cause }).postLink l .fault

/-! ### The ROOM rule (R99) -/

/-- The ROOM rule for one circuit. -/
def State.roomNotice (s : State) (c : CircuitNo) : State :=
  match s.record c with
  | none => s
  | some r =>
    if r.roomWanted && decide (r.txQueue.length < r.depth) then
      (s.setRecord c (some { r with roomWanted := false })).postCircuit c .room
    else s

/-- The ROOM rule over every circuit, in rising number (R99, R153). -/
def State.roomNotices (s : State) : State := s.forCircuits fun c t => t.roomNotice c

/-- The end of a claim that may have returned transmit cells: the ROOM notices come after every other
notice of the claim (R99, R153). -/
def State.afterReturns (before after : State) : State :=
  if before.txFree < after.txFree then after.roomNotices else after

end Sys2Proof.Machine
end

