-- ==== Sys2Proof/Machine/Scheduler.lean ====
section
/-! DEFINITION. The Link Scheduler (chapter 5): the choice at a frame boundary and the start of each
frame (R101 to R108). -/

namespace Sys2Proof.Machine

/-! ### Putting a frame on the line -/

/-- A frame starts: the scheduler's transmitter is SENDING it, an UP link's HELLO timer stops (R123), on a
looped link its characters go to the internal path (R149), and the line transmitter begins it under the
configuration as it stands, unless a cut delimiter is still to end (R139, R141, R144). -/
def State.startFrame (s : State) (l : LinkNo) (f : Frame) : State :=
  s.onLink l fun x =>
    { x with
      onLine := some f
      helloTimer := if x.isUp then none else x.helloTimer
      transmitter := if x.cutDelimiters = 0 then .sendingFrame x.config else x.transmitter
      loopPath := if x.config.loopback then x.loopPath ++ lineCharacters f else x.loopPath }

/-! ### HELLO (R103) -/

/-- A due HELLO starts with the epochs as they stand. -/
def State.startHello (s : State) (l : LinkNo) : State :=
  let x := s.link l
  (s.setLink l { x with helloDue := false }).startFrame l (.hello x.ownEpoch x.peerEpoch)

/-! ### Control frames (R104, R105) -/

/-- The address of a frame that a circuit sends: the recorded peer, and 255/0 where none is recorded
(R105, R114; log entry 16), from the record's number and generation. -/
def Record.header (r : Record) (c : CircuitNo) (generation : Byte) : Header :=
  let p : Peer := r.peer.getD { circuit := 255, generation := 0 }
  ⟨p.circuit, p.generation, byteOf c.val, generation⟩

/-- The reason a CLOSE carries, read from the record as the frame starts (R61). -/
def Record.closeReason (r : Record) : Byte :=
  match r.phase with
  | .closing reason => reason.code
  | .ended .localAbort _ _ => closeAbort
  | .ended .withdrawn _ _ => closeAbort
  | .ended .superseded _ _ => closeSuperseded
  | .ended cause _ _ => Config.closeReasonElsewhere 6 cause.code
  | .calling => Config.closeReasonElsewhere 1 0
  | .offered => Config.closeReasonElsewhere 2 0
  | .opened => Config.closeReasonElsewhere 3 0
  | .draining => Config.closeReasonElsewhere 4 0

/-- The control frame of a kind, with the content of R105. -/
def Record.controlFrame (r : Record) (c : CircuitNo) (generation : Byte) : ControlKind → Frame
  | .accept => .accept (r.header c generation) (byteOf r.quota)
  | .grant => .grant (r.header c generation) r.candidate
  | .ask => .ask (r.header c generation)
  | .openRequest => .openRequest ⟨255, 0, byteOf c.val, generation⟩ r.service (byteOf r.quota)
  | .close => .close (r.header c generation) r.closeReason
  | .closed => .closed (r.header c generation)

/-- What the start of a control frame does to the record besides the kind leaving the owed set (R105). -/
def Record.afterControl (r : Record) (t : Nat) : ControlKind → Record
  | .grant => { r with advertised := r.candidate }
  | .openRequest => { r with retryTimer := some t }
  | .close =>
    match r.phase with
    | .closing _ => { r with retryTimer := some t }
    | _ => r
  | .accept => r
  | .ask => r
  | .closed => r

/-- One control frame of the circuit at the head of the control list: the kind leaves the owed set, and
the circuit moves to the tail or leaves the list (R104). A head that owes nothing, which no run has
(R135), only leaves the list. -/
def State.startControl (s : State) (l : LinkNo) (c : CircuitNo) (rest : List CircuitNo) : State :=
  match s.record c with
  | none => s.onLink l fun x => { x with controlList := rest }
  | some r =>
    match r.owed.first with
    | none => s.onLink l fun x => { x with controlList := rest }
    | some k =>
      let r' := Record.afterControl { r with owed := r.owed.put k false } s.settings.retryMs k
      let t := (s.setRecord c (some r')).onLink l fun x =>
        { x with controlList := if r'.owed.isEmpty then rest else rest ++ [c] }
      t.startFrame l (r.controlFrame c (s.circuit c).generation k)

/-! ### Answers (R106) -/

/-- The frame that an answer item describes. -/
def AnswerItem.frame : AnswerItem → Frame
  | .refuse h reason => .refuse h reason
  | .close h reason => .close h reason
  | .closed h => .closed h

/-- The oldest answer item starts. -/
def State.startAnswer (s : State) (l : LinkNo) (item : AnswerItem) (rest : List AnswerItem) : State :=
  (s.onLink l fun x => { x with answerList := rest }).startFrame l item.frame

/-! ### DATA frames (R107, R108) -/

/-- Whether a circuit is eligible for DATA on a link (R107). -/
def Record.eligible (r : Record) (l : LinkNo) : Bool :=
  decide (r.link = l) && r.phase.sendsData && !r.txQueue.isEmpty && forward r.credit

/-- The circuit numbers in the order in which a class examines them: rising from one more than its last
served, wrapping from 63 to 0 (R107). -/
def roundRobin (lastServed : CircuitNo) : List CircuitNo :=
  allCircuits.map fun k => lastServed + 1 + k

/-- The circuit that a priority class would serve on a link. -/
def State.classChoice (s : State) (l : LinkNo) (p : Fin 4) : Option CircuitNo :=
  (roundRobin (s.link l).lastServed[p]).find? fun c =>
    match s.record c with
    | none => false
    | some r => r.eligible l && decide (r.priority = p)

/-- The most urgent class that has an eligible circuit, with the circuit it serves (R107). -/
def State.dataChoice (s : State) (l : LinkNo) : Option (Fin 4 × CircuitNo) :=
  (List.finRange 4).findSome? fun p => (s.classChoice l p).map fun c => (p, c)

/-- The DATA frame of a circuit starts (R108). -/
def State.startData (s : State) (l : LinkNo) (p : Fin 4) (c : CircuitNo) : State :=
  match s.record c with
  | none => s
  | some r =>
    match r.txQueue with
    | [] => s
    | payload :: rest =>
      let r' := Record.settleAsk s.settings.askMs r
        { r with txQueue := rest, nextSeq := r.nextSeq + 1, sent := r.sent + 1 }
      let t := (s.setRecord c (some r')).onLink l fun x =>
        { x with lastServed := x.lastServed.set p c }
      let t := if decide (r.phase = .draining) && rest.isEmpty then t.beginClosing c else t
      t.startFrame l (.data (r.header c (s.circuit c).generation) r.nextSeq payload)

/-! ### The choice (R101, R102) -/

/-- The choice of R102: a due HELLO, the control list, the answer list, DATA. -/
def State.choose (s : State) (l : LinkNo) : State :=
  if (s.link l).helloDue then s.startHello l
  else
    match (s.link l).controlList with
    | c :: rest => s.startControl l c rest
    | [] =>
      match (s.link l).answerList with
      | item :: rest => s.startAnswer l item rest
      | [] =>
        match s.dataChoice l with
        | some (p, c) => s.startData l p c
        | none => s

/-- The choice at a frame boundary that a claim may have made: taken on a link in SEEKING or UP whose
transmitter is IDLE (R101). -/
def State.boundary (s : State) (l : LinkNo) : State :=
  if (s.link l).state = .stopped ∨ (s.link l).onLine.isSome then s else s.choose l

/-- The frame boundaries of every link, in rising number (R101). -/
def State.boundaries (s : State) : State := allLinks.foldl (fun t l => t.boundary l) s

/-- The end of a claim that bears on one link: the ROOM notices of the cells it returned, then the
choice on an idle transmitter (R101, R109, R153). -/
def State.finishClaim (before after : State) (l : LinkNo) : State :=
  (State.afterReturns before after).boundary l

end Sys2Proof.Machine
end

