-- ==== Sys2Proof/Machine/HostPort.lean ====
section
/-! DEFINITION. The host port (chapter 9): bus writes and reads of the window, the start and the
completion of a command, part settings, and the rows PART_CONFIGURE, PART_QUERY, BAD_COMMAND,
MAILBOX_WRITE, STATUS_WRITE, CONTROL_WRITE and COMMAND_START. -/

namespace Sys2Proof.Machine

/-- What a step of the part answers. -/
abbrev StepOutcome := Host.Outcome State Fault Refusal

/-- An event of a part that is not held; a held part takes none (R177). -/
def State.unlessHeld (s : State) (f : State → State) : StepOutcome :=
  .next (if s.held then s else f s)

/-! ### Completion of a command (R167) -/

/-- The completion claim of a command, after its effect: the result in word 0, the return words, BUSY
clear and DONE set (R167). -/
def State.complete (s : State) (cmd : Command) (reply : Reply) : State :=
  { s with
    word0 := pack cmd.code reply.result.code
    args := writeWords s.args reply.args
    data := writeWords s.data reply.data
    command := none
    done := true }

/-- The completion of a command of one name, with its effect and its reply. Where no such command is in
progress there is no completion to take, and nothing changes (log entry 3). -/
def State.completing (s : State) (name : CommandName) (effect : Command → State → Reply × State) :
    StepOutcome :=
  s.unlessHeld fun s =>
    match s.command with
    | none => s
    | some cmd =>
      if cmd.name = name then
        let p := effect cmd s
        p.2.complete cmd p.1
      else s

/-- The circuit that ARG0 names: none above 63 or in FREE (R2). -/
def State.named (s : State) (w : Word) : Option (CircuitNo × Record) :=
  match circuitOf w.toNat with
  | none => none
  | some c => (s.record c).map fun r => (c, r)

/-- A command that names a circuit: the check of R2 comes before every other. -/
def State.forCircuit (s : State) (cmd : Command)
    (f : CircuitNo → Record → Reply × State) : Reply × State :=
  match s.named cmd.args[0] with
  | none => (.bare .noSuchCircuit, s)
  | some (c, r) => f c r

/-! ### The window (R163 to R166) -/

/-- The start of a command (R165). -/
def State.startCommand (s : State) (value : Word) : State :=
  { s with
    command := some
      { name := commandOfWrite value, code := loByte value, args := s.args, data := s.data }
    word0 := pack (loByte value) 0xFF
    done := false }

/-- A write to a mailbox word while BUSY is dropped and sets COLLIDE (R166). -/
def State.mailbox (s : State) (f : State → State) : State :=
  if s.busy then { s with collide := true } else f s

/-- A write to STATUS (R164). -/
def State.writeStatus (s : State) (value : Word) : State :=
  { s with
    done := s.done && !value.getLsbD 1
    collide := s.collide && !value.getLsbD 3 }

/-- A write to CONTROL (R158). -/
def State.writeControl (s : State) (value : Word) : State :=
  { s with noticeEnable := value.getLsbD 0, completionEnable := value.getLsbD 1 }

/-- The ARG word at a window address (R163). -/
def argIndex (w : Nat) : Option (Fin 8) :=
  if h : 4 ≤ w ∧ w < 12 then some ⟨w - 4, by omega⟩ else none

/-- The DATA word at a window address (R163). -/
def dataIndex (w : Nat) : Option (Fin 16) :=
  if h : 12 ≤ w ∧ w < 28 then some ⟨w - 12, by omega⟩ else none

/-- A bus write cycle (R163). -/
def State.busWrite (s : State) (word : BitVec 5) (value : Word) : State :=
  if word = 0 then s.mailbox fun s => s.startCommand value
  else if word = 1 then s.writeStatus value
  else if word = 2 then s.writeControl value
  else
    match argIndex word.toNat with
    | some k => s.mailbox fun s => { s with args := s.args.set k value }
    | none =>
      match dataIndex word.toNat with
      | some k => s.mailbox fun s => { s with data := s.data.set k value }
      | none => s

/-- What a bus read cycle of a word returns; a held part does not drive the data lines. A read changes
nothing (R163, R177). -/
def State.busRead (s : State) (word : BitVec 5) : Option Word :=
  if s.held then none
  else if word = 0 then some s.word0
  else if word = 1 then some s.statusWord
  else if word = 2 then some s.controlWord
  else if word = 3 then some Config.ident
  else
    match argIndex word.toNat with
    | some k => some s.args[k]
    | none =>
      match dataIndex word.toNat with
      | some k => some s.data[k]
      | none => some 0

/-- MAILBOX_WRITE (R163, R166). -/
def execMailboxWrite (word : BitVec 5) (value : Word) (s : State) : StepOutcome :=
  s.unlessHeld fun s => s.busWrite word value

/-- COMMAND_START (R165): a write to word 0. -/
def execCommandStart (value : Word) (s : State) : StepOutcome :=
  s.unlessHeld fun s => s.busWrite 0 value

/-- STATUS_WRITE (R164): a write to word 1. -/
def execStatusWrite (value : Word) (s : State) : StepOutcome :=
  s.unlessHeld fun s => s.busWrite 1 value

/-- CONTROL_WRITE (R158): a write to word 2. -/
def execControlWrite (value : Word) (s : State) : StepOutcome :=
  s.unlessHeld fun s => s.busWrite 2 value

/-! ### Commands of the host port itself -/

/-- PART_CONFIGURE (R171, R172). -/
def execPartConfigure (s : State) : StepOutcome :=
  s.completing .partConfigure fun cmd s =>
    match Settings.ofArgs cmd.args with
    | none => (.bare .badArgument, s)
    | some p => (.bare .ok, { s with settings := p })

/-- PART_QUERY (R173). -/
def execPartQuery (s : State) : StepOutcome :=
  s.completing .partQuery fun _ s =>
    let p := s.settings
    ({ result := .ok
       args :=
        [(0, wordOf p.hello), (1, wordOf p.deadCount), (2, wordOf p.retry), (3, wordOf p.retryLimit),
         (4, wordOf p.answerHold), (5, wordOf p.ask), (6, Config.ident), (7, 0)] }, s)

/-- BAD_COMMAND (R168). -/
def execBadCommand (s : State) : StepOutcome :=
  s.completing .bad fun _ s => (.bare .badCommand, s)

end Sys2Proof.Machine
end

