-- ==== Sys2Proof/Machine/Services.lean ====
section
/-! DEFINITION. Services and admission (chapter 2): the service commands, the admission of an OPEN
frame, and CIRCUIT_ANSWER and CIRCUIT_REFUSE on offered circuits. -/

namespace Sys2Proof.Machine

/-! ### Service commands -/

/-- SERVICE_REGISTER (R28). -/
def execServiceRegister (s : State) : StepOutcome :=
  s.completing .serviceRegister fun cmd s =>
    match Service.ofArgs cmd.args with
    | none => (.bare .badArgument, s)
    | some e =>
      if (s.service e.number).isSome then (.bare .duplicate, s)
      else if Config.serviceCapacity ≤ s.services.length then (.bare .tableFull, s)
      else
        let n := s.countFor e.number
        ({ result := .ok, args := [(1, wordOf n)] },
         { s with services := insertService { e with active := n } s.services })

/-- SERVICE_AMEND (R29). -/
def execServiceAmend (s : State) : StepOutcome :=
  s.completing .serviceAmend fun cmd s =>
    if !inRange 1 255 cmd.args[0].toNat then (.bare .badArgument, s)
    else
      match s.service (loByte cmd.args[0]) with
      | none => (.bare .noSuchService, s)
      | some old =>
        match Service.ofArgs cmd.args with
        | none => (.bare .badArgument, s)
        | some e =>
          ({ result := .ok, args := [(1, wordOf old.active)] },
           s.onService old.number fun x => { e with number := x.number, active := x.active })

/-- SERVICE_QUERY (R30). -/
def execServiceQuery (s : State) : StepOutcome :=
  s.completing .serviceQuery fun cmd s =>
    if !inRange 1 255 cmd.args[0].toNat then (.bare .badArgument, s)
    else
      match s.service (loByte cmd.args[0]) with
      | none => (.bare .noSuchService, s)
      | some e => ({ result := .ok, args := e.toArgs }, s)

/-- The entry with a number leaves the table (R25). -/
def State.removeService (s : State) (number : Byte) : State :=
  { s with services := s.services.filter fun e => decide (e.number ≠ number) }

/-- What a forced withdrawal does to one circuit (R32; the order of the circuits is log entry 28). -/
def State.withdrawCircuit (s : State) (number : Byte) (c : CircuitNo) : State :=
  match s.record c with
  | none => s
  | some r =>
    if r.direction = .incoming ∧ r.service = number then
      match r.phase with
      | .offered =>
        let p : Peer := r.peer.getD { circuit := 255, generation := 0 }
        (s.answer r.link (.refuse ⟨p.circuit, p.generation, 255, 0⟩ refuseDeclined)).endCircuit c
          .withdrawn none
      | .opened | .draining => (s.owe c .close).endCircuit c .withdrawn none
      | _ => s
    else s

/-- The incoming circuits of a service in states that a test accepts (R32). -/
def State.serviceCircuits (s : State) (number : Byte) (p : Phase → Bool) : Nat :=
  (allCircuits.filter fun c =>
    match s.record c with
    | none => false
    | some r => decide (r.direction = .incoming) && decide (r.service = number)
        && p r.phase).length

/-- CLOSING, whatever its reason. -/
def Phase.isClosing : Phase → Bool
  | .closing _ => true
  | _ => false

/-- A forced withdrawal (R32): the circuits in rising number, then the entry. Rising number is the order
that R153 gives for the ENDED notices. DESIGN CHOICE (log entry 28): the REFUSE items join an answer list
and the circuits join a control list in that order too, which R32 leaves open; it decides which REFUSE
items a full answer list drops. -/
def State.forceWithdraw (s : State) (number : Byte) : Reply × State :=
  let t := (s.forCircuits fun c u => u.withdrawCircuit number c).removeService number
  ({ result := .ok
     args :=
      [(1, wordOf (s.serviceCircuits number fun p => decide (p = .offered))),
       (2, wordOf (s.serviceCircuits number Phase.sendsData)),
       (3, wordOf (s.serviceCircuits number Phase.isClosing))] },
   (State.afterReturns s t).boundaries)

/-- SERVICE_WITHDRAW (R31, R32). -/
def execServiceWithdraw (s : State) : StepOutcome :=
  s.completing .serviceWithdraw fun cmd s =>
    if !(inRange 1 255 cmd.args[0].toNat && inRange 0 1 cmd.args[1].toNat) then
      (.bare .badArgument, s)
    else
      match s.service (loByte cmd.args[0]) with
      | none => (.bare .noSuchService, s)
      | some e =>
        if cmd.args[1] = 1 then s.forceWithdraw e.number
        else if 0 < e.active then ({ result := .inUse, args := [(1, wordOf e.active)] }, s)
        else
          ({ result := .ok, args := [(1, 0), (2, 0), (3, 0)] }, s.removeService e.number)

/-! ### Admission of an OPEN frame -/

/-- The circuit that the search of R34 finds. -/
def State.findByPeer (s : State) (l : LinkNo) (peerCircuit : Byte) : Option CircuitNo :=
  allCircuits.find? fun c =>
    match s.record c with
    | none => false
    | some r => r.holdsPeer l peerCircuit

/-- Whether a link is in a link mask: flag 2^k for link k (R27). -/
def inMask (mask : BitVec 4) (l : LinkNo) : Bool := mask.getLsbD l.val

/-- An admission decision: the entry and the record to allocate, or the reason of the REFUSE (R37). -/
inductive Admission where
  | admitted (e : Service) (c : CircuitNo)
  | refused (reason : Byte)
deriving DecidableEq, Repr

/-- The six checks of R37, in order. -/
def State.judgeOpen (s : State) (l : LinkNo) (service : Byte) : Admission :=
  match s.service service with
  | none => .refused refuseNoService
  | some e =>
    if !inMask e.linkMask l then .refused refuseLinkNotAllowed
    else if !e.listening then .refused refuseBusy
    else if e.limit ≤ e.active then .refused refuseBusy
    else
      match s.lowestFree with
      | none => .refused refuseNoCircuit
      | some c => if s.hasRoom e.quota then .admitted e c else .refused refuseNoRoom

/-- An admitted request: the allocation from the entry's defaults, the count, and either ACCEPT owed and
OPENED posted, or the hold timer and OFFERED (R39, R40). -/
def State.acceptOpen (s : State) (l : LinkNo) (hdr : Header) (quota : Byte) (e : Service)
    (c : CircuitNo) : State :=
  let a : Allocation :=
    { phase := match e.mode with
        | .auto => .opened
        | .hold => .offered
      direction := .incoming
      link := l
      service := e.number
      peer := some { circuit := hdr.src, generation := hdr.srcGen }
      tag := e.tag
      priority := e.priority
      quota := e.quota
      threshold := e.threshold
      depth := e.depth
      creditLimit := quota.setWidth 16
      holdTimer := match e.mode with
        | .auto => none
        | .hold => some s.settings.holdMs }
  let t := (s.allocate c a).onService e.number fun x => { x with active := x.active + 1 }
  match e.mode with
  | .auto => (t.owe c .accept).postCircuit c .opened
  | .hold => t.postCircuit c .offered

/-- A request that is neither duplicate nor stale is judged, and admitted or refused (R37 to R40). -/
def State.requestOpen (s : State) (l : LinkNo) (hdr : Header) (service quota : Byte) : State :=
  match s.judgeOpen l service with
  | .admitted e c => s.acceptOpen l hdr quota e c
  | .refused reason => s.answer l (.refuse ⟨hdr.src, hdr.srcGen, 255, 0⟩ reason)

/-- A repetition of the request that created a record (R35). -/
def State.repeatOpen (s : State) (c : CircuitNo) : State :=
  match s.record c with
  | none => s
  | some r =>
    if r.direction = .incoming ∧ r.phase = .opened then s.owe c .accept else s

/-- An OPEN frame taken by the Admission Unit of an UP link (R34 to R36). -/
def State.takeOpen (s : State) (l : LinkNo) (hdr : Header) (service quota : Byte) : State :=
  if 63 < hdr.src.toNat then s
  else
    match s.findByPeer l hdr.src with
    | none => s.requestOpen l hdr service quota
    | some c =>
      match (s.record c).bind Record.peer with
      | none => s.requestOpen l hdr service quota
      | some p =>
        if p.generation = hdr.srcGen then s.repeatOpen c
        else (s.supersede c).requestOpen l hdr service quota

/-! ### Offered circuits -/

/-- CIRCUIT_ANSWER (R43). -/
def execCircuitAnswer (s : State) : StepOutcome :=
  s.completing .circuitAnswer fun cmd s =>
    s.forCircuit cmd fun c r =>
      if r.phase ≠ .offered then (.bare .wrongState, s)
      else if !inRange 0 1 cmd.args[1].toNat then (.bare .badArgument, s)
      else
        let tag := if cmd.args[1] = 1 then cmd.args[2] else r.tag
        let t := (s.setRecord c (some
          { r with phase := .opened, tag := tag, holdTimer := none })).owe c .accept
        ({ result := .ok
           args := [(1, (s.circuit c).generation.setWidth 16), (2, tag)] },
         State.finishClaim s t r.link)

/-- The refusal of an offer by a host command, with what it returns (R44). -/
def State.declineOffer (s : State) (c : CircuitNo) (r : Record) : Reply × State :=
  ({ result := .ok, args := [(1, (s.circuit c).generation.setWidth 16)] },
   State.finishClaim s (s.refuseOffer c refuseDeclined) r.link)

/-- CIRCUIT_REFUSE (R44). -/
def execCircuitRefuse (s : State) : StepOutcome :=
  s.completing .circuitRefuse fun cmd s =>
    s.forCircuit cmd fun c r =>
      if r.phase ≠ .offered then (.bare .wrongState, s) else s.declineOffer c r

end Sys2Proof.Machine
end

