-- ==== Sys2Proof/Machine/Calls.lean ====
section
/-! DEFINITION. Calls, closes and endings (chapter 3): CIRCUIT_CALL, CIRCUIT_CLOSE, CIRCUIT_ABORT, the
matching of frames (R133), stray answers (R69, R71), and ACCEPT, REFUSE, CLOSE and CLOSED frames. -/

namespace Sys2Proof.Machine

/-! ### Host commands -/

/-- What CIRCUIT-CALL asks for (R48). -/
structure CallArgs where
  link : LinkNo
  service : Byte
  quota : Nat
  threshold : Nat
  priority : Fin 4
  depth : Nat
  tag : Word
deriving DecidableEq, Repr

/-- The arguments of CIRCUIT-CALL, or none where one of ARG0..ARG5 is out of range (R48). -/
def CallArgs.ofArgs (a : Vector Word 8) : Option CallArgs :=
  match linkOf a[0].toNat, priorityOf a[4].toNat with
  | some l, some p =>
    if inRange 1 255 a[1].toNat && inRange 1 64 a[2].toNat && inRange 1 a[2].toNat a[3].toNat
        && inRange 1 32 a[5].toNat then
      some
        { link := l
          service := loByte a[1]
          quota := a[2].toNat
          threshold := a[3].toNat
          priority := p
          depth := a[5].toNat
          tag := a[6] }
    else none
  | _, _ => none

/-- The allocation of an outgoing circuit (R17). -/
def CallArgs.allocation (a : CallArgs) : Allocation :=
  { phase := .calling
    direction := .outgoing
    link := a.link
    service := a.service
    peer := none
    tag := a.tag
    priority := a.priority
    quota := a.quota
    threshold := a.threshold
    depth := a.depth
    creditLimit := 0
    holdTimer := none }

/-- CIRCUIT_CALL (R48). -/
def execCircuitCall (s : State) : StepOutcome :=
  s.completing .circuitCall fun cmd s =>
    match CallArgs.ofArgs cmd.args with
    | none => (.bare .badArgument, s)
    | some a =>
      if !(s.link a.link).isUp then (.bare .linkDown, s)
      else
        match s.lowestFree with
        | none => (.bare .noCircuit, s)
        | some c =>
          if !s.hasRoom a.quota then (.bare .noRoom, s)
          else
            let t := (s.allocate c a.allocation).owe c .openRequest
            ({ result := .ok
               args :=
                [(0, wordOf c.val), (1, ((s.circuit c).generation + 1).setWidth 16)] },
             State.finishClaim s t a.link)

/-- CIRCUIT_CLOSE (R56). -/
def execCircuitClose (s : State) : StepOutcome :=
  s.completing .circuitClose fun cmd s =>
    s.forCircuit cmd fun c r =>
      if r.phase ≠ .opened then (.bare .wrongState, s)
      else if r.txQueue.isEmpty then
        ({ result := .ok, args := [(1, 5), (2, 0)] },
         State.finishClaim s (s.beginClosing c) r.link)
      else
        ({ result := .ok, args := [(1, 4), (2, wordOf r.txQueue.length)] },
         s.setRecord c (some { r with phase := .draining }))

/-- CIRCUIT_ABORT (R64). -/
def execCircuitAbort (s : State) : StepOutcome :=
  s.completing .circuitAbort fun cmd s =>
    s.forCircuit cmd fun c r =>
      let reply : Reply := { result := .ok, args := [(1, wordOf r.txQueue.length)] }
      match r.phase with
      | .ended _ _ _ => (.bare .wrongState, s)
      | .offered => s.declineOffer c r
      | .calling => (reply, State.finishClaim s (s.endCircuit c .localAbort none) r.link)
      | .opened | .draining | .closing _ =>
        (reply, State.finishClaim s ((s.owe c .close).endCircuit c .localAbort none) r.link)

/-! ### Matching and stray frames -/

/-- The record a circuit frame received on a link matches (R133). -/
def State.matched (s : State) (l : LinkNo) (hdr : Header) : Option (CircuitNo × Record) :=
  match circuitOf hdr.dst.toNat with
  | none => none
  | some c =>
    match s.record c with
    | none => none
    | some r =>
      if r.link = l ∧ (s.circuit c).generation = hdr.dstGen
          ∧ (r.peer = none ∨ r.peer = some { circuit := hdr.src, generation := hdr.srcGen }) then
        some (c, r)
      else none

/-- The address of an answer: back to the source, from the destination as received (R71). -/
def Header.back (h : Header) : Header := ⟨h.src, h.srcGen, h.dst, h.dstGen⟩

/-- The answer to a stray DATA, GRANT, ASK or ACCEPT: CLOSE of reason STRAY. A source above 63 draws
none (R69, R71). -/
def State.answerStray (s : State) (l : LinkNo) (hdr : Header) : State :=
  if 63 < hdr.src.toNat then s else s.answer l (.close (Header.back hdr) closeStray)

/-- The answer to a CLOSE that no record can answer by its owed set: CLOSED. A source above 63 draws
none (R54, R68 to R71). -/
def State.answerClosed (s : State) (l : LinkNo) (hdr : Header) : State :=
  if 63 < hdr.src.toNat then s else s.answer l (.closed (Header.back hdr))

/-! ### Frames of the call and the close -/

/-- An ACCEPT frame on an UP link (R50, R55, R68 to R70). -/
def State.takeAccept (s : State) (l : LinkNo) (hdr : Header) (quota : Byte) : State :=
  match s.matched l hdr with
  | none => s.answerStray l hdr
  | some (c, r) =>
    match r.phase with
    | .calling =>
      if 63 < hdr.src.toNat then s
      else s.openCall c { circuit := hdr.src, generation := hdr.srcGen } (quota.setWidth 16)
    | .opened | .draining | .closing _ =>
      if r.direction = .outgoing then
        s.setRecord c (some (r.offerLimit s.settings.askMs (quota.setWidth 16)))
      else s.answerStray l hdr
    | .offered | .ended _ _ _ => s.answerStray l hdr

/-- A REFUSE frame on an UP link (R53, R72). -/
def State.takeRefuse (s : State) (l : LinkNo) (hdr : Header) (reason : Byte) : State :=
  match s.matched l hdr with
  | none => s
  | some (c, r) =>
    if r.phase = .calling then s.endCircuit c .refused (some reason) else s

/-- A CLOSE frame on an UP link (R54, R60, R62, R68, R69, R70). -/
def State.takeClose (s : State) (l : LinkNo) (hdr : Header) (reason : Byte) : State :=
  match s.matched l hdr with
  | none => s.answerClosed l hdr
  | some (c, r) =>
    match r.phase with
    | .calling =>
      if 63 < hdr.src.toNat then s
      else (s.endCircuit c .peerClose (some reason)).answerClosed l hdr
    | .offered => s.answerClosed l hdr
    | .opened | .draining => (s.owe c .closed).endCircuit c .peerClose (some reason)
    | .closing own =>
      ((s.owe c .closed).disown c .close).endCircuit c own.endCause none
    | .ended _ _ _ =>
      if r.peer.isSome then s.owe c .closed else s.answerClosed l hdr

/-- A CLOSED frame on an UP link (R59, R72). -/
def State.takeClosed (s : State) (l : LinkNo) (hdr : Header) : State :=
  match s.matched l hdr with
  | none => s
  | some (c, r) =>
    match r.phase with
    | .closing own => (s.disown c .close).endCircuit c own.endCause none
    | _ => s

end Sys2Proof.Machine
end

