-- ==== Sys2Proof/Machine/Credit.lean ====
section
/-! DEFINITION. Credit and the receive pool (chapter 4): DATA, GRANT and ASK frames, RECEIVE and
POOL_QUERY. -/

namespace Sys2Proof.Machine

/-! ### DATA -/

/-- The record after an accepted DATA frame (R83). -/
def Record.acceptData (r : Record) (sequence : Byte) (payload : List Byte) : Record :=
  { r with
    rxQueue := r.rxQueue ++ [{ sequence := sequence, payload := payload }]
    received := r.received + 1
    expected := r.expected + 1 }

/-- A DATA frame is accepted: a cell, the queue, and a DATA notice where the queue was empty (R83). -/
def State.acceptData (s : State) (c : CircuitNo) (r : Record) (sequence : Byte)
    (payload : List Byte) : State :=
  let t := s.setRecord c (some (r.acceptData sequence payload))
  let t := { t with cellsHeld := t.cellsHeld + 1 }
  if r.rxQueue.isEmpty then t.postCircuit c .data else t

/-- A DATA frame on a circuit in OPEN, DRAINING or CLOSING, by the steps of R80. -/
def State.dataOn (s : State) (c : CircuitNo) (sequence : Byte) (payload : List Byte) : State :=
  match s.record c with
  | none => s
  | some r =>
    if r.phase = .closing .loss ∨ r.phase = .closing .violation then s
    else if r.received = r.advertised then s.forceClose c .violation
    else if sequence ≠ r.expected then s.forceClose c .loss
    else s.acceptData c r sequence payload

/-- A GRANT frame on a circuit in OPEN, DRAINING or CLOSING (R88). -/
def State.grantOn (s : State) (c : CircuitNo) (limit : Word) : State :=
  match s.record c with
  | none => s
  | some r => s.setRecord c (some (r.offerLimit s.settings.askMs limit))

/-- A DATA, GRANT or ASK frame by the state of the record it matches: implied acceptance in CALLING
(R51), the handling of its kind in OPEN, DRAINING and CLOSING, a stray answer elsewhere (R69). -/
def State.takeCredit (s : State) (l : LinkNo) (hdr : Header)
    (handle : CircuitNo → State → State) : State :=
  match s.matched l hdr with
  | none => s.answerStray l hdr
  | some (c, r) =>
    match r.phase with
    | .calling =>
      if 63 < hdr.src.toNat then s
      else handle c (s.openCall c { circuit := hdr.src, generation := hdr.srcGen } 0)
    | .opened | .draining | .closing _ => handle c s
    | .offered | .ended _ _ _ => s.answerStray l hdr

/-- A DATA frame on an UP link (R80 to R83). -/
def State.takeData (s : State) (l : LinkNo) (hdr : Header) (sequence : Byte)
    (payload : List Byte) : State :=
  s.takeCredit l hdr fun c t => t.dataOn c sequence payload

/-- A GRANT frame on an UP link (R88). -/
def State.takeGrant (s : State) (l : LinkNo) (hdr : Header) (limit : Word) : State :=
  s.takeCredit l hdr fun c t => t.grantOn c limit

/-- An ASK frame on an UP link (R87). -/
def State.takeAsk (s : State) (l : LinkNo) (hdr : Header) : State :=
  s.takeCredit l hdr fun c t => t.owe c .grant

/-! ### Host commands -/

/-- The return words of RECEIVE (R91). -/
def receiveReply (c : CircuitNo) (item : RxItem) (left : Nat) : Reply :=
  { result := .ok
    args :=
      [(0, wordOf c.val), (1, wordOf item.payload.length), (2, item.sequence.setWidth 16),
       (3, wordOf left)]
    data := payloadWords item.payload }

/-- RECEIVE (R91, R85). -/
def execReceive (s : State) : StepOutcome :=
  s.completing .receive fun cmd s =>
    s.forCircuit cmd fun c r =>
      if r.phase = .calling ∨ r.phase = .offered then (.bare .wrongState, s)
      else
        match r.rxQueue with
        | [] => (.bare .empty, s)
        | item :: rest =>
          let r' := { r with rxQueue := rest }
          let t := s.setRecord c (some r')
          let t := { t with cellsHeld := t.cellsHeld - 1 }
          let t := if r'.phase.carriesData && r'.grantDue then t.owe c .grant else t
          (receiveReply c item rest.length, State.finishClaim s t r.link)

/-- POOL_QUERY (R93). -/
def execPoolQuery (s : State) : StepOutcome :=
  s.completing .poolQuery fun _ s =>
    ({ result := .ok
       args :=
        [(0, wordOf s.reservationTotal), (1, wordOf s.cellsHeld),
         (2, wordOf (Config.transmitCells - s.txFree)),
         (3, wordOf (Config.receiveCells - s.reservationTotal))] }, s)

end Sys2Proof.Machine
end

