-- ==== Sys2Proof/Machine/Transmit.lean ====
section
/-! DEFINITION. The transmit side (chapter 5): SEND, TRANSMISSION_COMPLETION, the cut of a frame (R111)
and CUT_DELIMITER_COMPLETION (R148). -/

namespace Sys2Proof.Machine

/-- SEND (R97, R89). -/
def execSend (s : State) : StepOutcome :=
  s.completing .send fun cmd s =>
    s.forCircuit cmd fun c r =>
      let n := cmd.args[1].toNat
      if !inRange 1 32 n then (.bare .badArgument, s)
      else if r.phase ≠ .calling ∧ r.phase ≠ .opened then (.bare .wrongState, s)
      else if r.depth ≤ r.txQueue.length ∨ s.txFree = 0 then
        ({ result := .full
           args := [(1, wordOf r.txQueue.length), (2, wordOf s.txFree)] },
         s.setRecord c (some { r with roomWanted := true }))
      else
        let r' := Record.settleAsk s.settings.askMs r
          { r with txQueue := r.txQueue ++ [payloadOf cmd.data n] }
        let t := s.setRecord c (some r')
        let t := { t with txFree := t.txFree - 1 }
        ({ result := .ok
           args :=
            [(1, wordOf r'.txQueue.length), (2, wordOf t.txFree),
             (3, (r.nextSeq + byteOf r.txQueue.length).setWidth 16)] },
         State.finishClaim s t r.link)

/-- Whether a frame holds a transmit cell: DATA alone does (R95). -/
def Frame.holdsCell : Frame → Bool
  | .data _ _ _ => true
  | _ => false

/-- The cell of the frame on a link's line returns to the pool, and the transmitter is IDLE (R109,
R111). -/
def State.clearLine (s : State) (l : LinkNo) : State :=
  match (s.link l).onLine with
  | none => s
  | some f =>
    let t := s.onLink l fun x => { x with onLine := none }
    if f.holdsCell then { t with txFree := t.txFree + 1 } else t

/-- The HELLO timer of an UP link starts with H where a completion leaves its transmitter IDLE
(R123). -/
def State.idleHello (s : State) (l : LinkNo) : State :=
  s.onLink l fun x =>
    if x.isUp && x.onLine.isNone then { x with helloTimer := some s.settings.helloMs } else x

/-- The end of the frame on a link's line: the scheduler's transmitter and the line transmitter are IDLE
(R109, R141). -/
def State.endFrame (s : State) (l : LinkNo) : State :=
  (s.clearLine l).onLink l fun x => { x with transmitter := .idle }

/-- TRANSMISSION_COMPLETION (R109). Where no frame is on the line, or the frame still waits behind a cut
delimiter (R144), there is no completion to take (log entry 3). -/
def execTransmissionCompletion (l : LinkNo) (s : State) : StepOutcome :=
  s.unlessHeld fun s =>
    if (s.link l).onLine.isNone ∨ (s.link l).cutDelimiters ≠ 0 then s
    else (State.finishClaim s (s.endFrame l) l).idleHello l

/-! ### The cut (R111, R148) -/

/-- The line transmitter at a cut: it finishes the character that has begun. A frame that still waited
behind an earlier cut delimiter has begun none (R144, R148). -/
def LineTransmitter.cut : LineTransmitter → LineTransmitter
  | .sendingFrame cfg => .finishing cfg
  | t => t

/-- How many characters of a cut frame have begun on the internal path and are still to be delivered
(R148, R149; log entry 10): the one that the receiver is receiving; the first of the frame where none of
the frame has been delivered, because a line transmitter that sends the frame has begun it (R141); else
none. A frame that waits behind a cut delimiter has begun none (R144). -/
def Link.begunOnPath (x : Link) (f : Frame) : Nat :=
  match x.transmitter, x.receiver with
  | .sendingFrame _, .receiving _ => 1
  | .sendingFrame _, _ => if (lineCharacters f).length ≤ x.loopPath.length then 1 else 0
  | _, _ => 0

/-- The internal path of a looped link after the cut of a frame: what was sent before the frame stays,
then the begun character of the frame if it is still to be delivered, and the cut delimiter follows (R148,
R149; log entry 10). -/
def Link.cutPath (x : Link) (f : Frame) : List Byte :=
  x.loopPath.take (x.loopPath.length - (lineCharacters f).length + x.begunOnPath f) ++ [delimiter]

/-- The cut of the frame on a stopped link's line (R111, R148): its cell returns, and one more delimiter
is to be sent, on the line or on the internal path of a looped link (log entry 12). -/
def State.cutFrame (s : State) (l : LinkNo) : State :=
  match (s.link l).onLine with
  | none => s
  | some f =>
    (s.clearLine l).onLink l fun x =>
      { x with
        transmitter := x.transmitter.cut
        cutDelimiters := x.cutDelimiters + 1
        loopPath := if x.config.loopback then x.cutPath f else x.loopPath }

/-- A cut delimiter has ended. The line transmitter goes on with the next cut delimiter, then with a frame
that waits (R144), each under the configuration that now stands, and else is IDLE (R148). -/
def Link.endDelimiter (x : Link) : Link :=
  let left := x.cutDelimiters - 1
  { x with
    cutDelimiters := left
    transmitter :=
      if left ≠ 0 then .sendingDelimiter x.config
      else if x.onLine.isSome then .sendingFrame x.config
      else .idle }

/-- CUT_DELIMITER_COMPLETION (R148). Where no cut delimiter is to end, there is nothing to take (log entry
3). -/
def execCutDelimiterCompletion (l : LinkNo) (s : State) : StepOutcome :=
  s.unlessHeld fun s => if (s.link l).cutDelimiters = 0 then s else s.onLink l Link.endDelimiter

/-! ### The output line -/

/-- The levels that the line transmitter puts out, sample period by sample period, for the whole of what it
sends: nothing where it is IDLE, the characters of the frame, or a cut delimiter, under the configuration
that this began with (R139 to R141, R148). Which character of a cut frame it finishes is not held (log
entry 8). -/
def Link.wave (x : Link) : Option (List LineLevel) :=
  match x.transmitter with
  | .idle => some []
  | .sendingFrame cfg => x.onLine.map fun f => cfg.wave (lineCharacters f)
  | .finishing _ => none
  | .sendingDelimiter cfg => some (cfg.wave [delimiter])

/-- Whether the characters being sent, if any, go to the internal path: a character stays on the path
that it began on (R144, R149). While the begun character of a cut frame is finished, a cut delimiter of
the present configuration may have taken its place. -/
def Link.sendsInside (x : Link) : Bool :=
  match x.transmitter with
  | .idle => true
  | .sendingFrame cfg => cfg.loopback
  | .finishing cfg => cfg.loopback && x.config.loopback
  | .sendingDelimiter cfg => cfg.loopback

/-- Whether the output line is at mark whatever the characters are: nothing is sent on it, or the part is
held (R141, R144, R149, R177). -/
def State.outputAtMark (s : State) (l : LinkNo) : Bool := s.held || (s.link l).sendsInside

end Sys2Proof.Machine
end

