-- ==== Sys2Proof/Machine/Links.lean ====
section
/-! DEFINITION. Link records and the handshake (chapter 6) and the line configuration (chapter 7):
LINK_CONFIGURE, LINK_START, LINK_STOP, LINK_QUERY, the handling of valid frames by a Link Controller,
and the expiries of the HELLO and dead timers. -/

namespace Sys2Proof.Machine

/-! ### Host commands -/

/-- The line transmitter as a new configuration comes to stand: a cut delimiter that has begun keeps the
configuration it began with (R144; log entry 27). -/
def Link.transmitterAt (x : Link) (delimiterBegun : Bool) : LineTransmitter :=
  match x.transmitter with
  | .finishing cfg => if delimiterBegun then .sendingDelimiter x.config else .finishing cfg
  | t => t

/-- The cut delimiters that a line transmitter has not begun: all while it finishes the character of a
cut frame, all but one while it sends a cut delimiter (R148). -/
def LineTransmitter.notBegun (cutDelimiters : Nat) : LineTransmitter → Nat
  | .idle => 0
  | .sendingFrame _ => 0
  | .finishing _ => cutDelimiters
  | .sendingDelimiter _ => cutDelimiters - 1

/-- Whether the line transmitter sends on the internal path: what it sends goes where its own configuration
says (R144, R149). -/
def LineTransmitter.inside : LineTransmitter → Bool
  | .idle => false
  | .sendingFrame cfg => cfg.loopback
  | .finishing cfg => cfg.loopback
  | .sendingDelimiter cfg => cfg.loopback

/-- The receiver as a new configuration comes to stand (R144): READY or WAITING by the level of its input,
which with loopback on is the internal path, at mark while nothing is sent on it (R149; log entry 29). -/
def receiverConfigured (lines : LinesNow) (loopback : Bool) (sending : LineTransmitter) :
    ReceiverState :=
  if loopback then
    if sending.inside then receiverOf lines.path else .ready
  else receiverOf lines.rxd

/-- The internal path as a new configuration comes to stand, `n` cut delimiters being not yet begun: the
characters that have begun are abandoned, and the delimiters not yet begun remain on the path where
loopback stays on, and go to it where loopback comes to be set (R144, R149). -/
def pathAt (before after : Bool) (path : List Byte) (n : Nat) : List Byte :=
  if !after then []
  else if before then path.drop (path.length - n)
  else List.replicate n delimiter

/-- A link of which LINK-CONFIGURE sets the configuration (R143, R144, R149). The receiver begins to watch
its input under the new settings, and a character in reception is abandoned. What is being sent finishes
as it began. Writing the configuration that the link holds changes nothing. -/
def Link.configure (x : Link) (cfg : LineConfig) (lines : LinesNow) : Link :=
  if x.config = cfg then x
  else
    let sending := x.transmitterAt lines.delimiterBegun
    { x with
      config := cfg
      transmitter := sending
      receiver := receiverConfigured lines cfg.loopback sending
      loopPath :=
        pathAt x.config.loopback cfg.loopback x.loopPath (sending.notBegun x.cutDelimiters) }

/-- The resulting rate as one 32-bit number with its high half first (R143). -/
def baudWords (cfg : LineConfig) : List (Fin 8 × Word) :=
  [(3, wordOf (cfg.baud / 65536)), (4, wordOf cfg.baud)]

/-- LINK_CONFIGURE (R143, R144). -/
def execLinkConfigure (lines : LinesNow) (s : State) : StepOutcome :=
  s.completing .linkConfigure fun cmd s =>
    match linkOf cmd.args[0].toNat with
    | none => (.bare .badArgument, s)
    | some l =>
      if (s.link l).state ≠ .stopped then (.bare .wrongState, s)
      else
        match LineConfig.ofWords cmd.args[1] cmd.args[2] with
        | none => (.bare .badArgument, s)
        | some cfg =>
          ({ result := .ok
             args := (1, cmd.args[1]) :: (2, cmd.args[2]) :: baudWords cfg },
           s.onLink l fun x => x.configure cfg lines)

/-- The receive side of a Frame Codec held in HUNT with an empty buffer (R118). -/
def Link.huntEmpty (x : Link) : Link := { x with assembly := .hunt, buffer := [] }

/-- LINK_START (R122). -/
def execLinkStart (s : State) : StepOutcome :=
  s.completing .linkStart fun cmd s =>
    match linkOf cmd.args[0].toNat with
    | none => (.bare .badArgument, s)
    | some l =>
      if (s.link l).state ≠ .stopped then (.bare .wrongState, s)
      else
        let t := s.onLink l fun x => (x.seek s.settings.helloMs 0).huntEmpty
        ({ result := .ok, args := [(1, (t.link l).ownEpoch)] }, State.finishClaim s t l)

/-- What a stop does in SEEKING and UP alike (R130). -/
def State.stopLink (s : State) (l : LinkNo) : State :=
  (s.cutFrame l).onLink l fun x =>
    Link.huntEmpty
      { x with state := .stopped, helloDue := false, helloTimer := none, deadTimer := none }

/-- The live circuits of a link (R130). -/
def State.liveOn (s : State) (l : LinkNo) : Nat :=
  (allCircuits.filter fun c =>
    match s.record c with
    | none => false
    | some r => decide (r.link = l) && r.phase.live).length

/-- LINK_STOP (R130, R111). -/
def execLinkStop (s : State) : StepOutcome :=
  s.completing .linkStop fun cmd s =>
    match linkOf cmd.args[0].toNat with
    | none => (.bare .badArgument, s)
    | some l =>
      match (s.link l).state with
      | .stopped => (.bare .wrongState, s)
      | .seeking =>
        ({ result := .ok, args := [(1, 0)] }, State.finishClaim s (s.stopLink l) l)
      | .up =>
        ({ result := .ok, args := [(1, wordOf (s.liveOn l))] },
         State.finishClaim s ((s.endLink l .linkStopped).stopLink l) l)

/-- The return words of LINK-QUERY (R136). -/
def linkReply (l : LinkNo) (x : Link) : Reply :=
  { result := .ok
    args :=
      [(0, wordOf l.val),
       (1, pack (byteOf x.state.code) (byteOf (flag x.onLine.isSome 1))),
       (2, x.ownEpoch),
       (3, x.peerEpoch),
       (4, pack (byteOf (downCode x.lastDown)) (byteOf x.lastFault.code)),
       (5, pack (byteOf x.controlList.length) (byteOf x.answerList.length)),
       (6, x.config.divisor),
       (7, x.config.word2)] }

/-- LINK_QUERY (R136). -/
def execLinkQuery (s : State) : StepOutcome :=
  s.completing .linkQuery fun cmd s =>
    match linkOf cmd.args[0].toNat with
    | none => (.bare .badArgument, s)
    | some l => (linkReply l (s.link l), s)

/-! ### The handshake -/

/-- A HELLO on a SEEKING link (R124). -/
def State.seekingHello (s : State) (l : LinkNo) (epoch seen : Word) : State :=
  if epoch = 0 then s
  else if seen = (s.link l).ownEpoch then
    (s.onLink l fun x =>
      { x with
        peerEpoch := epoch
        state := .up
        deadTimer := some s.settings.deadMs
        helloTimer := none
        helloDue := true }).postLink l .up
  else s.onLink l fun x => { x with peerEpoch := epoch, helloDue := true }

/-- The dead timer starts again with the current D × H (R125). -/
def State.restartDead (s : State) (l : LinkNo) : State :=
  s.onLink l fun x => { x with deadTimer := some s.settings.deadMs }

/-- A link end after which the link seeks (R128, R129). -/
def State.loseLink (s : State) (l : LinkNo) (cause : DownCause) (peerEpoch : Word) : State :=
  (s.endLink l cause).onLink l fun x => x.seek s.settings.helloMs peerEpoch

/-- A HELLO on an UP link (R125, R126, R129). -/
def State.upHello (s : State) (l : LinkNo) (epoch seen : Word) : State :=
  if epoch = 0 then s
  else
    let t := s.restartDead l
    if epoch = (s.link l).peerEpoch ∧ seen = (s.link l).ownEpoch then t
    else t.loseLink l .peerRestart epoch

/-- A valid frame at the Link Controller of an UP link (R132). -/
def State.dispatch (s : State) (l : LinkNo) (f : Frame) : State :=
  match f with
  | .hello epoch seen => s.upHello l epoch seen
  | .openRequest hdr service quota => (s.restartDead l).takeOpen l hdr service quota
  | .accept hdr quota => (s.restartDead l).takeAccept l hdr quota
  | .refuse hdr reason => (s.restartDead l).takeRefuse l hdr reason
  | .close hdr reason => (s.restartDead l).takeClose l hdr reason
  | .closed hdr => (s.restartDead l).takeClosed l hdr
  | .data hdr sequence payload => (s.restartDead l).takeData l hdr sequence payload
  | .grant hdr limit => (s.restartDead l).takeGrant l hdr limit
  | .ask hdr => (s.restartDead l).takeAsk l hdr

/-- A valid frame at the Link Controller, by the state of the link: a STOPPED link takes none (R118), a
SEEKING link takes HELLO alone (R124). -/
def State.controller (s : State) (l : LinkNo) (f : Frame) : State :=
  match (s.link l).state with
  | .stopped => s
  | .seeking =>
    match f with
    | .hello epoch seen => s.seekingHello l epoch seen
    | _ => s
  | .up => s.dispatch l f

/-! ### Timers of a link -/

/-- HELLO_TIMER_EXPIRY (R123). -/
def execHelloTimerExpiry (l : LinkNo) (s : State) : StepOutcome :=
  s.unlessHeld fun s =>
    if (s.link l).helloTimer.isNone then s
    else
      match (s.link l).state with
      | .stopped => s
      | .seeking =>
        State.finishClaim s (s.onLink l fun x =>
          { x with helloDue := true, helloTimer := some s.settings.helloMs }) l
      | .up =>
        State.finishClaim s (s.onLink l fun x =>
          { x with helloDue := true, helloTimer := none }) l

/-- DEAD_TIMER_EXPIRY (R128). -/
def execDeadTimerExpiry (l : LinkNo) (s : State) : StepOutcome :=
  s.unlessHeld fun s =>
    if (s.link l).state = .up ∧ (s.link l).deadTimer.isSome then
      State.finishClaim s (s.loseLink l .linkLost 0) l
    else s

end Sys2Proof.Machine
end

