-- ==== Sys2Proof/Machine/Frames.lean ====
section
/-! DEFINITION. What the serial lines bring (chapters 6 and 7): the rows of valid frames, FRAME_DISCARD,
LINE_FAULT, RECEIVED_CHARACTER and RETURN_TO_MARK. -/

namespace Sys2Proof.Machine

/-! ### Whole frames -/

/-- The delimiter that ends a frame leaves the assembly in GATHER with an empty buffer (R118). -/
def State.endAssembly (s : State) (l : LinkNo) (a : Assembly) : State :=
  s.onLink l fun x => { x with assembly := a, buffer := [] }

/-- A valid frame taken by a link that is not STOPPED: the assembly after its closing delimiter, the
Link Controller, and the end of the claim (R118, R119, R132). -/
def State.handleFrame (s : State) (l : LinkNo) (f : Frame) : State :=
  State.finishClaim s ((s.endAssembly l .gather).controller l f) l

/-- A discard on a link that is not STOPPED (R118 to R120). -/
def State.handleDiscard (s : State) (l : LinkNo) (cause : FrameFault) : State :=
  (s.endAssembly l (discardAssembly cause)).recordFault l (faultOfFrame cause)

/-- A valid frame arrives whole (log entry 11). A STOPPED link ignores it (R118). On a looped link no
frame can come but the one whose characters are next on the internal path, and they are taken from it
(R149, log entry 9). -/
def State.arrive (s : State) (l : LinkNo) (f : Frame) : State :=
  if (s.link l).config.loopback then
    if (lineCharacters f).isPrefixOf (s.link l).loopPath then
      let t := s.onLink l fun x =>
        { x with loopPath := x.loopPath.drop (lineCharacters f).length }
      if (s.link l).state = .stopped then t else t.handleFrame l f
    else s
  else if (s.link l).state = .stopped then s
  else s.handleFrame l f

/-- HELLO_FRAME (R124, R126). -/
def execHelloFrame (l : LinkNo) (epoch seen : Word) (s : State) : StepOutcome :=
  s.unlessHeld fun s => s.arrive l (.hello epoch seen)

/-- OPEN_FRAME (R34). -/
def execOpenFrame (l : LinkNo) (hdr : Header) (service quota : Byte) (s : State) : StepOutcome :=
  s.unlessHeld fun s => s.arrive l (.openRequest hdr service quota)

/-- ACCEPT_FRAME (R50). -/
def execAcceptFrame (l : LinkNo) (hdr : Header) (quota : Byte) (s : State) : StepOutcome :=
  s.unlessHeld fun s => s.arrive l (.accept hdr quota)

/-- REFUSE_FRAME (R53). -/
def execRefuseFrame (l : LinkNo) (hdr : Header) (reason : Byte) (s : State) : StepOutcome :=
  s.unlessHeld fun s => s.arrive l (.refuse hdr reason)

/-- CLOSE_FRAME (R54, R60, R62, R68, R70). -/
def execCloseFrame (l : LinkNo) (hdr : Header) (reason : Byte) (s : State) : StepOutcome :=
  s.unlessHeld fun s => s.arrive l (.close hdr reason)

/-- CLOSED_FRAME (R59). -/
def execClosedFrame (l : LinkNo) (hdr : Header) (s : State) : StepOutcome :=
  s.unlessHeld fun s => s.arrive l (.closed hdr)

/-- A discard found at the end of or inside a frame, on a link that is neither STOPPED nor looped: the
input of a looped link is not watched, and its own frames are whole (R149). -/
def State.discard (s : State) (l : LinkNo) (cause : FrameFault) : State :=
  if (s.link l).state = .stopped ∨ (s.link l).config.loopback then s else s.handleDiscard l cause

/-- DATA_FRAME (R80). A payload outside 1..32 bytes makes no valid frame: without a payload the length is
wrong for the kind, and above 32 bytes the frame is oversize (R115, R118, R119; log entry 17). -/
def execDataFrame (l : LinkNo) (hdr : Header) (sequence : Byte) (payload : List Byte) (s : State) :
    StepOutcome :=
  s.unlessHeld fun s =>
    if payload.isEmpty then s.discard l .badLength
    else if 32 < payload.length then s.discard l .oversize
    else s.arrive l (.data hdr sequence payload)

/-- GRANT_FRAME (R88). -/
def execGrantFrame (l : LinkNo) (hdr : Header) (limit : Word) (s : State) : StepOutcome :=
  s.unlessHeld fun s => s.arrive l (.grant hdr limit)

/-- ASK_FRAME (R87). -/
def execAskFrame (l : LinkNo) (hdr : Header) (s : State) : StepOutcome :=
  s.unlessHeld fun s => s.arrive l (.ask hdr)

/-- FRAME_DISCARD (R119, R120). -/
def execFrameDiscard (l : LinkNo) (cause : FrameFault) (s : State) : StepOutcome :=
  s.unlessHeld fun s => s.discard l cause

/-! ### Characters and line faults -/

/-- A character delivered to the Frame Codec (R118, R119). -/
def State.deliver (s : State) (l : LinkNo) (b : Byte) : State :=
  if (s.link l).state = .stopped then s
  else
    let r := assemble (s.link l).assembly (s.link l).buffer b
    match r.2.2 with
    | .nothing => s.onLink l fun x => { x with assembly := r.1, buffer := r.2.1 }
    | .discard cause => s.handleDiscard l cause
    | .frameEnd bytes =>
      match checkFrame bytes with
      | .ok f => s.handleFrame l f
      | .error cause => s.handleDiscard l cause

/-- A line fault delivered to the Frame Codec (R118, R120, R147). -/
def State.deliverFault (s : State) (l : LinkNo) (f : LineFault) : State :=
  if (s.link l).state = .stopped then s
  else (s.endAssembly l .hunt).recordFault l (faultOfLine f)

/-- The receiver of a link takes a state. -/
def State.setReceiver (s : State) (l : LinkNo) (r : ReceiverState) : State :=
  s.onLink l fun x => { x with receiver := r }

/-- Whether a receiver can find a fault (R146, R149): none on the internal path, none while it waits for
mark, and a PARITY fault only in a character of a configuration with parity. -/
def Link.findsFault (x : Link) (f : LineFault) : Bool :=
  !x.config.loopback && decide (x.receiver ≠ .waiting)
    && (decide (f ≠ .parity) || decide (x.characterConfig.parity ≠ .none))

/-- A line fault found by a receiver ends the character (R146, R147). -/
def State.takeLineFault (s : State) (l : LinkNo) (f : LineFault) : State :=
  if (s.link l).findsFault f then (s.setReceiver l (faultReceiver f)).deliverFault l f else s

/-- LINE_FAULT (R147). -/
def execLineFault (l : LinkNo) (cause : LineFault) (s : State) : StepOutcome :=
  s.unlessHeld fun s => s.takeLineFault l cause

/-- A receiver that watches its input line (R145, R146): a start edge begins a character, space without
one makes it wait for mark, and a character is judged. A WAITING receiver has no start edge to time a
character from. -/
def State.watchLine (s : State) (l : LinkNo) (input : ReceiverInput) : State :=
  match input with
  | .startEdge =>
    if (s.link l).receiver = .ready then s.setReceiver l (.receiving (s.link l).config) else s
  | .spaceWithoutEdge =>
    if (s.link l).receiver = .ready then s.setReceiver l .waiting else s
  | .character samples =>
    if (s.link l).receiver = .waiting then s
    else
      match judge (s.link l).characterConfig.parity samples with
      | .falseStart => s.setReceiver l .ready
      | .character b => (s.setReceiver l .ready).deliver l b
      | .fault f => s.takeLineFault l f

/-- A looped receiver has the next character of the internal path, if there is one, and never sees the
samples of its input line, nor a space without an edge (R149; log entry 9). While it waits for the path to
return to mark it takes none (R144, R145; log entry 29). -/
def State.watchPath (s : State) (l : LinkNo) (input : ReceiverInput) : State :=
  match (s.link l).loopPath with
  | [] => s
  | b :: rest =>
    match input with
    | .startEdge =>
      if (s.link l).receiver = .ready then s.setReceiver l (.receiving (s.link l).config) else s
    | .spaceWithoutEdge => s
    | .character _ =>
      if (s.link l).receiver = .waiting then s
      else ((s.setReceiver l .ready).onLink l fun x => { x with loopPath := rest }).deliver l b

/-- RECEIVED_CHARACTER (R118, R145, R146, R149). -/
def execReceivedCharacter (l : LinkNo) (input : ReceiverInput) (s : State) : StepOutcome :=
  s.unlessHeld fun s =>
    if (s.link l).config.loopback then s.watchPath l input else s.watchLine l input

/-- RETURN_TO_MARK (R145): a WAITING receiver becomes READY. -/
def execReturnToMark (l : LinkNo) (s : State) : StepOutcome :=
  s.unlessHeld fun s => if (s.link l).receiver = .waiting then s.setReceiver l .ready else s

end Sys2Proof.Machine
end

