-- ==== Sys2Proof/Machine/CircuitTable.lean ====
section
/-! DEFINITION. The commands on the circuit table (chapter 1, section 1.5): CIRCUIT_QUERY,
CIRCUIT_RELEASE, CIRCUIT_FIND and CIRCUIT_AMEND. -/

namespace Sys2Proof.Machine

/-- The close reason code of CIRCUIT-QUERY, 0 when absent (R19). -/
def Phase.closeReasonCode : Phase → Byte
  | .closing reason => reason.code
  | _ => 0

/-- The end cause code, 0 when absent (R19, R155). -/
def Phase.endCode : Phase → Nat
  | .ended cause _ _ => cause.code
  | _ => 0

/-- The end detail, 0 when absent (R19, R155). -/
def Phase.endDetail : Phase → Byte
  | .ended _ detail _ => detail.getD 0
  | _ => 0

/-- Frames discarded, 0 when absent (R19, R155). -/
def Phase.framesDiscarded : Phase → Nat
  | .ended _ _ n => n
  | _ => 0

/-- The return words of CIRCUIT-QUERY (R19). -/
def queryReply (c : CircuitNo) (generation : Byte) (r : Record) : Reply :=
  let p : Peer := r.peer.getD { circuit := 255, generation := 0 }
  { result := .ok
    args :=
      [(0, wordOf c.val),
       (1, pack (byteOf r.phase.code) generation),
       (2, pack (byteOf r.direction.code) (byteOf r.link.val)),
       (3, pack (byteOf r.priority.val) r.service),
       (4, pack p.circuit p.generation),
       (5, r.tag),
       (6, pack (byteOf r.quota) (byteOf r.threshold)),
       (7, pack (byteOf r.depth) (byteOf (flag r.roomWanted 1)))]
    data :=
      [(0, r.received),
       (1, r.advertised),
       (2, r.sent),
       (3, r.creditLimit),
       (4, pack (byteOf r.rxQueue.length) r.expected),
       (5, pack (byteOf r.txQueue.length) r.nextSeq),
       (6, wordOf r.owed.flags),
       (7, pack r.phase.closeReasonCode (byteOf r.retryCount)),
       (8, pack (byteOf r.phase.endCode) r.phase.endDetail),
       (9, wordOf r.phase.framesDiscarded),
       (10, 0), (11, 0), (12, 0), (13, 0), (14, 0), (15, 0)] }

/-- CIRCUIT_QUERY (R19). -/
def execCircuitQuery (s : State) : StepOutcome :=
  s.completing .circuitQuery fun cmd s =>
    s.forCircuit cmd fun c r => (queryReply c (s.circuit c).generation r, s)

/-- CIRCUIT_RELEASE (R20). -/
def execCircuitRelease (s : State) : StepOutcome :=
  s.completing .circuitRelease fun cmd s =>
    s.forCircuit cmd fun c r =>
      if r.phase.live then (.bare .wrongState, s)
      else
        ({ result := .ok
           args := [(1, wordOf r.rxQueue.length), (2, (s.circuit c).generation.setWidth 16)] },
         s.freeCircuit c)

/-- Whether the mode and the match values of CIRCUIT-FIND are in range (R22). -/
def findArgsOk (mode v1 v2 : Nat) : Bool :=
  match mode with
  | 1 => inRange 0 3 v1 && inRange 0 63 v2
  | 2 => inRange 1 255 v1
  | 3 => inRange 0 6 v1
  | 4 => true
  | _ => false

/-- Whether a circuit matches the criterion of CIRCUIT-FIND (R22). -/
def findMatches (mode v1 v2 : Nat) (x : Circuit) : Bool :=
  match mode, x.record with
  | 1, some r =>
    decide (r.link.val = v1) &&
      match r.peer with
      | none => false
      | some p => decide (p.circuit.toNat = v2)
  | 2, some r => decide (r.service.toNat = v1)
  | 3, _ => decide (x.stateCode = v1)
  | 4, some r => decide (r.tag.toNat = v1)
  | _, _ => false

/-- CIRCUIT_FIND (R22). -/
def execCircuitFind (s : State) : StepOutcome :=
  s.completing .circuitFind fun cmd s =>
    let mode := cmd.args[1].toNat
    let v1 := cmd.args[2].toNat
    let v2 := cmd.args[3].toNat
    if !(inRange 0 63 cmd.args[0].toNat && findArgsOk mode v1 v2) then (.bare .badArgument, s)
    else
      match allCircuits.find? fun c =>
          decide (cmd.args[0].toNat ≤ c.val) && findMatches mode v1 v2 (s.circuit c) with
      | none => (.bare .notFound, s)
      | some c =>
        let x := s.circuit c
        let tag := match x.record with
          | none => 0
          | some r => r.tag
        ({ result := .ok
           args := [(0, wordOf c.val), (1, pack (byteOf x.stateCode) x.generation), (2, tag)] }, s)

/-- The record with the selected fields amended, or none where a selected value is out of range
(R23). -/
def amended (a : Vector Word 8) (r : Record) : Option Record :=
  match if a[1].getLsbD 0 then priorityOf a[2].toNat else some r.priority with
  | none => none
  | some priority =>
    let threshold := if a[1].getLsbD 1 then a[3].toNat else r.threshold
    let depth := if a[1].getLsbD 2 then a[4].toNat else r.depth
    let tag := if a[1].getLsbD 3 then a[5] else r.tag
    if a[1].getLsbD 1 && !inRange 1 r.quota threshold then none
    else if a[1].getLsbD 2 && !(inRange 1 32 depth && decide (r.txQueue.length ≤ depth)) then none
    else some { r with priority := priority, threshold := threshold, depth := depth, tag := tag }

/-- CIRCUIT_AMEND (R23); a new threshold is compared at once (R85). -/
def execCircuitAmend (s : State) : StepOutcome :=
  s.completing .circuitAmend fun cmd s =>
    s.forCircuit cmd fun c r =>
      if !r.phase.live then (.bare .wrongState, s)
      else if !inRange 1 15 cmd.args[1].toNat then (.bare .badArgument, s)
      else
        match amended cmd.args r with
        | none => (.bare .badArgument, s)
        | some r' =>
          let t := s.setRecord c (some r')
          let t :=
            if cmd.args[1].getLsbD 1 && r'.phase.carriesData && r'.grantDue then t.owe c .grant
            else t
          (.bare .ok, State.finishClaim s t r.link)

end Sys2Proof.Machine
end

