-- ==== Sys2Proof/Machine/Notices.lean ====
section
/-! DEFINITION. NEXT_NOTICE (chapter 8, R155). -/

namespace Sys2Proof.Machine

/-- The return words of NEXT-NOTICE for a circuit source; `left` counts the sources left (R155). -/
def circuitNoticeReply (c : CircuitNo) (p : CircuitPending) (x : Circuit) (left : Nat) : Reply :=
  let rest : List (Fin 8 × Word) :=
    match x.record with
    | none => [(3, 0), (4, 0), (5, 0), (6, 0)]
    | some r =>
      [(3, r.tag),
       (4, pack (byteOf r.phase.endCode) r.phase.endDetail),
       (5, pack (byteOf r.direction.code) (byteOf r.link.val)),
       (6, pack (byteOf r.rxQueue.length) (byteOf r.phase.framesDiscarded))]
  { result := .ok
    args :=
      [(0, wordOf (Source.circuit c).number), (1, wordOf p.flags),
       (2, pack (byteOf x.stateCode) x.generation)] ++ rest ++ [(7, wordOf left)] }

/-- The return words of NEXT-NOTICE for a link source (R155). -/
def linkNoticeReply (l : LinkNo) (p : LinkPending) (x : Link) (left : Nat) : Reply :=
  { result := .ok
    args :=
      [(0, wordOf (Source.link l).number), (1, wordOf p.flags),
       (2, pack (byteOf x.state.code) (byteOf l.val)),
       (3, x.ownEpoch),
       (4, pack (byteOf (downCode x.lastDown)) (byteOf x.lastFault.code)),
       (5, x.peerEpoch),
       (6, 0),
       (7, wordOf left)] }

/-- NEXT_NOTICE (R155). -/
def execNextNotice (s : State) : StepOutcome :=
  s.completing .nextNotice fun _ s =>
    match s.noticeList with
    | [] => (.bare .none, s)
    | .circuit c :: rest =>
      (circuitNoticeReply c s.circuitNotices[c] (s.circuit c) rest.length,
       { s with circuitNotices := s.circuitNotices.set c { }, noticeList := rest })
    | .link l :: rest =>
      (linkNoticeReply l s.linkNotices[l] (s.link l) rest.length,
       { s with linkNotices := s.linkNotices.set l { }, noticeList := rest })

end Sys2Proof.Machine
end

