-- ==== Sys2Proof/Machine/Resets.lean ====
section
/-! DEFINITION. The three resets (chapter 9, section 9.5): CLEAR, RESETN_PULSE with RESETN_RELEASE, and
POWER_ON. -/

namespace Sys2Proof.Machine

/-! ### CLEAR -/

/-- The DATA frames on the lines, whose cells stay in transmission over a CLEAR (R113). -/
def State.cellsOnLines (s : State) : Nat :=
  (allLinks.filter fun l =>
    match (s.link l).onLine with
    | none => false
    | some f => f.holdsCell).length

/-- What CLEAR does to one link: a running link seeks afresh with empty lists, and the last served of
every class is 63 on every link (R113, R138). -/
def Link.clear (x : Link) (h : Nat) : Link :=
  let y := { x with lastServed := Vector.replicate 4 63 }
  match x.state with
  | .stopped => y
  | _ => { y.seek h 0 with controlList := [], answerList := [] }

/-- Every circuit FREE, its generation kept (R24). -/
def freeAll (v : Vector Circuit 64) : Vector Circuit 64 := v.map fun x => { x with record := none }

/-- The circuit side of the part in an empty condition: what CLEAR and the resets share (R24, R47, R94,
R113, R162). -/
def State.emptied (s : State) : State :=
  { s with
    circuits := freeAll s.circuits
    services := []
    reservationTotal := 0
    cellsHeld := 0
    circuitNotices := Vector.replicate 64 { }
    linkNotices := Vector.replicate 4 { }
    noticeList := [] }

/-- The one claim of CLEAR on the tables (R174). -/
def State.cleared (s : State) : State :=
  { s.emptied with
    txFree := Config.transmitCells - s.cellsOnLines
    links := s.links.map fun x => x.clear s.settings.helloMs }

/-- CLEAR (R174). -/
def execClear (s : State) : StepOutcome :=
  s.completing .clear fun _ s =>
    ({ result := .ok
       args :=
        [(0, wordOf (allCircuits.filter fun c => (s.record c).isSome).length),
         (1, wordOf s.services.length),
         (2, wordOf (allLinks.filter fun l => decide ((s.link l).state ≠ .stopped)).length)] },
     s.cleared.boundaries)

/-! ### RESETN and power-on -/

/-- A link after a RESETN pulse: the power-on values, but for its epochs and its line configuration; the
receiver begins to watch its input (R113, R137, R151). -/
def Link.resetn (x : Link) (rxd : LineLevel) : Link :=
  { Link.reset with
    ownEpoch := x.ownEpoch
    peerEpoch := x.peerEpoch
    config := x.config
    receiver := receiverAt x.config.loopback rxd }

/-- The claim of a RESETN reset on every block (R176); the queue of events is not the part's. -/
def State.resetn (s : State) (rxd : Vector LineLevel 4) : State :=
  { State.reset with
    circuits := freeAll s.circuits
    links := s.links.mapFinIdx fun k x h => x.resetn rxd[k]
    held := true
    pending := s.pending }

/-- RESETN_PULSE (R176): a low level shorter than the filter has no effect, nor has one while the part is
held (R177). -/
def execResetnPulse (lowNs : Nat) (rxd : Vector LineLevel 4) (s : State) : StepOutcome :=
  s.unlessHeld fun s => if lowNs < Config.resetFilterNs then s else s.resetn rxd

/-- RESETN_RELEASE (R177): the end of a hold by RESETN. The power-on hold goes on (R178). -/
def execResetnRelease (s : State) : StepOutcome :=
  .next (if s.powering then s else { s with held := false })

/-- The supply rises: the part holds itself with RESETN's effect (R178). What that effect keeps shows
nowhere before the end of the hold sets it (log entry 26). -/
def State.enterPowerHold (s : State) (rxd : Vector LineLevel 4) : State :=
  { s.resetn rxd with powering := true }

/-- The end of the power-on hold: every block at its power-on values; with RESETN low the part stays held,
now by RESETN (R178). -/
def State.endPowerHold (s : State) (resetnLow : Bool) (rxd : Vector LineLevel 4) : State :=
  { State.reset with
    links := Vector.ofFn fun l => { Link.reset with receiver := receiverAt false rxd[l] }
    held := resetnLow
    pending := s.pending }

/-- POWER_ON (R178). -/
def execPowerOn (moment : PowerMoment) (rxd : Vector LineLevel 4) (s : State) : StepOutcome :=
  match moment with
  | .supplyRises => .next (s.enterPowerHold rxd)
  | .holdEnds resetnLow => .next (s.endPowerHold resetnLow rxd)

end Sys2Proof.Machine
end

