-- ==== Sys2Proof/Machine/Timers.lean ====
section
/-! DEFINITION. The expiries of a circuit's timers (R11): RETRY_TIMER_EXPIRY, HOLD_TIMER_EXPIRY and
ASK_TIMER_EXPIRY. A timer that is stopped does not expire. -/

namespace Sys2Proof.Machine

/-- A retransmission: the count rises and the kind is owed again (R49, R58). -/
def State.retransmit (s : State) (c : CircuitNo) (r : Record) (k : ControlKind) : State :=
  (s.setRecord c (some { r with retryCount := r.retryCount + 1, retryTimer := none })).owe c k

/-- RETRY_TIMER_EXPIRY (R49, R58, R172). -/
def execRetryTimerExpiry (c : CircuitNo) (s : State) : StepOutcome :=
  s.unlessHeld fun s =>
    match s.record c with
    | none => s
    | some r =>
      if r.retryTimer.isNone then s
      else
        match r.phase with
        | .calling =>
          State.finishClaim s
            (if r.retryCount < s.settings.retryLimit then s.retransmit c r .openRequest
             else s.endCircuit c .noAnswer none) r.link
        | .closing _ =>
          State.finishClaim s
            (if r.retryCount < s.settings.retryLimit then s.retransmit c r .close
             else s.endCircuit c .closeTimeout none) r.link
        | _ => s

/-- HOLD_TIMER_EXPIRY (R45). -/
def execHoldTimerExpiry (c : CircuitNo) (s : State) : StepOutcome :=
  s.unlessHeld fun s =>
    match s.record c with
    | none => s
    | some r =>
      if r.phase = .offered ∧ r.holdTimer.isSome then
        State.finishClaim s (s.refuseOffer c refuseTimeout) r.link
      else s

/-- ASK_TIMER_EXPIRY (R90). -/
def execAskTimerExpiry (c : CircuitNo) (s : State) : StepOutcome :=
  s.unlessHeld fun s =>
    match s.record c with
    | none => s
    | some r =>
      if r.phase.sendsData && r.askTimer.isSome then
        State.finishClaim s
          ((s.setRecord c (some { r with askTimer := some s.settings.askMs })).owe c .ask) r.link
      else s

end Sys2Proof.Machine
end

