-- ==== Sys2Proof/Machine/Dispatch.lean ====
section
/-! DEFINITION. One arm per event: which meaning each row of the table has. -/

namespace Sys2Proof.Machine

def exec (i : Instr) (s : State) : Host.Outcome State Fault Refusal :=
  match i with
  | .partConfigure => Sys2Proof.Machine.execPartConfigure s
  | .partQuery => Sys2Proof.Machine.execPartQuery s
  | .clear => Sys2Proof.Machine.execClear s
  | .linkConfigure lines => Sys2Proof.Machine.execLinkConfigure lines s
  | .linkStart => Sys2Proof.Machine.execLinkStart s
  | .linkStop => Sys2Proof.Machine.execLinkStop s
  | .linkQuery => Sys2Proof.Machine.execLinkQuery s
  | .serviceRegister => Sys2Proof.Machine.execServiceRegister s
  | .serviceAmend => Sys2Proof.Machine.execServiceAmend s
  | .serviceWithdraw => Sys2Proof.Machine.execServiceWithdraw s
  | .serviceQuery => Sys2Proof.Machine.execServiceQuery s
  | .circuitCall => Sys2Proof.Machine.execCircuitCall s
  | .circuitAnswer => Sys2Proof.Machine.execCircuitAnswer s
  | .circuitRefuse => Sys2Proof.Machine.execCircuitRefuse s
  | .circuitClose => Sys2Proof.Machine.execCircuitClose s
  | .circuitAbort => Sys2Proof.Machine.execCircuitAbort s
  | .circuitRelease => Sys2Proof.Machine.execCircuitRelease s
  | .circuitQuery => Sys2Proof.Machine.execCircuitQuery s
  | .circuitAmend => Sys2Proof.Machine.execCircuitAmend s
  | .circuitFind => Sys2Proof.Machine.execCircuitFind s
  | .send => Sys2Proof.Machine.execSend s
  | .receive => Sys2Proof.Machine.execReceive s
  | .nextNotice => Sys2Proof.Machine.execNextNotice s
  | .poolQuery => Sys2Proof.Machine.execPoolQuery s
  | .badCommand => Sys2Proof.Machine.execBadCommand s
  | .mailboxWrite word value => Sys2Proof.Machine.execMailboxWrite word value s
  | .statusWrite value => Sys2Proof.Machine.execStatusWrite value s
  | .controlWrite value => Sys2Proof.Machine.execControlWrite value s
  | .resetnPulse lowNs rxd => Sys2Proof.Machine.execResetnPulse lowNs rxd s
  | .resetnRelease => Sys2Proof.Machine.execResetnRelease s
  | .powerOn moment rxd => Sys2Proof.Machine.execPowerOn moment rxd s
  | .helloFrame l epoch seen => Sys2Proof.Machine.execHelloFrame l epoch seen s
  | .openFrame l hdr service quota => Sys2Proof.Machine.execOpenFrame l hdr service quota s
  | .acceptFrame l hdr quota => Sys2Proof.Machine.execAcceptFrame l hdr quota s
  | .refuseFrame l hdr reason => Sys2Proof.Machine.execRefuseFrame l hdr reason s
  | .closeFrame l hdr reason => Sys2Proof.Machine.execCloseFrame l hdr reason s
  | .closedFrame l hdr => Sys2Proof.Machine.execClosedFrame l hdr s
  | .dataFrame l hdr sequence payload => Sys2Proof.Machine.execDataFrame l hdr sequence payload s
  | .grantFrame l hdr limit => Sys2Proof.Machine.execGrantFrame l hdr limit s
  | .askFrame l hdr => Sys2Proof.Machine.execAskFrame l hdr s
  | .frameDiscard l cause => Sys2Proof.Machine.execFrameDiscard l cause s
  | .lineFault l cause => Sys2Proof.Machine.execLineFault l cause s
  | .retryTimerExpiry c => Sys2Proof.Machine.execRetryTimerExpiry c s
  | .holdTimerExpiry c => Sys2Proof.Machine.execHoldTimerExpiry c s
  | .askTimerExpiry c => Sys2Proof.Machine.execAskTimerExpiry c s
  | .helloTimerExpiry l => Sys2Proof.Machine.execHelloTimerExpiry l s
  | .deadTimerExpiry l => Sys2Proof.Machine.execDeadTimerExpiry l s
  | .transmissionCompletion l => Sys2Proof.Machine.execTransmissionCompletion l s
  | .commandStart value => Sys2Proof.Machine.execCommandStart value s
  | .receivedCharacter l input => Sys2Proof.Machine.execReceivedCharacter l input s
  | .returnToMark l => Sys2Proof.Machine.execReturnToMark l s
  | .cutDelimiterCompletion l => Sys2Proof.Machine.execCutDelimiterCompletion l s

end Sys2Proof.Machine
end

