-- ==== Sys2Proof/Safety.lean ====
section
/-! DEFINITION. The laws that the rules say the part keeps at all times, as predicates on a state. A run
is safe when every state of it keeps them; there is no other way to go wrong, since no event stops the
part. -/

namespace Sys2Proof.Machine

/-! ### Records and sums -/

/-- Something holds of every record that is not FREE. -/
abbrev State.everyRecord (s : State) (p : CircuitNo → Record → Prop) : Prop :=
  ∀ c : CircuitNo, ∀ r ∈ s.record c, p c r

/-- A sum over the records that are not FREE. -/
def State.sumRecords (s : State) (f : Record → Nat) : Nat :=
  (allCircuits.map fun c =>
    match s.record c with
    | none => 0
    | some r => f r).sum

/-! ### Notices -/

/-- R153: the notice list holds each source at most once, and a source is on it exactly when its pending
set is non-empty. -/
abbrev NoticeListLaw (s : State) : Prop :=
  s.noticeList.Nodup
    ∧ (∀ c : CircuitNo, Source.circuit c ∈ s.noticeList ↔ s.circuitNotices[c].isEmpty = false)
    ∧ (∀ l : LinkNo, Source.link l ∈ s.noticeList ↔ s.linkNotices[l].isEmpty = false)

/-- R152: a circuit's pending set is non-empty only while the record is not FREE. -/
abbrev PendingLaw (s : State) : Prop :=
  ∀ c : CircuitNo, s.record c = none → s.circuitNotices[c].isEmpty = true

/-! ### The pools -/

/-- R74: the reservation total is the sum of the receive quotas of all circuits that are not FREE, and
never exceeds 512. -/
abbrev ReservationLaw (s : State) : Prop :=
  s.reservationTotal = s.sumRecords Record.quota ∧ s.reservationTotal ≤ Config.receiveCells

/-- R73: cells held is the sum, over all circuits, of the lengths of their receive queues. -/
abbrev CellsHeldLaw (s : State) : Prop :=
  s.cellsHeld = s.sumRecords fun r => r.rxQueue.length

/-- R95: queued cells plus cells in transmission plus free cells always total 256. -/
abbrev TransmitPoolLaw (s : State) : Prop :=
  (s.sumRecords fun r => r.txQueue.length) + s.cellsOnLines + s.txFree = Config.transmitCells

/-- The presence rules of R12 for the transmit queue: empty in OFFERED, CLOSING and ENDED. -/
abbrev QueueStateLaw (s : State) : Prop :=
  s.everyRecord fun _ r =>
    (r.phase ≠ .calling ∧ r.phase ≠ .opened ∧ r.phase ≠ .draining) → r.txQueue = []

/-- R6, R7, R96: the ranges of a record's sizes, and the transmit queue within its depth. -/
abbrev SizesLaw (s : State) : Prop :=
  s.everyRecord fun _ r =>
    1 ≤ r.quota ∧ r.quota ≤ 64 ∧ 1 ≤ r.threshold ∧ r.threshold ≤ r.quota
      ∧ 1 ≤ r.depth ∧ r.depth ≤ 32 ∧ r.txQueue.length ≤ r.depth

/-! ### Credit -/

/-- R75 for one record: cells held plus (advertised limit − received count) mod 65536 is at most the
quota. -/
abbrev Record.withinQuota (r : Record) : Prop :=
  r.rxQueue.length + (r.advertised - r.received).toNat ≤ r.quota

/-- R75, with the range of the quota of R6. -/
abbrev CreditLaw (s : State) : Prop :=
  s.everyRecord fun _ r => r.quota ≤ 64 ∧ r.withinQuota

/-- R76 for one record: consecutive sequence numbers (mod 256) in queue order, the last one less than the
expected sequence. -/
abbrev Record.inSequence (r : Record) : Prop :=
  r.rxQueue.map RxItem.sequence
    = (List.range r.rxQueue.length).map fun k => r.expected - byteOf (r.rxQueue.length - k)

/-- R76. -/
abbrev SequenceLaw (s : State) : Prop := s.everyRecord fun _ r => r.inSequence

/-! ### Links -/

/-- R135: a link's control list holds each circuit at most once, and a circuit is on it exactly when its
owed set is non-empty and its link is UP. -/
abbrev ControlListLaw (s : State) : Prop :=
  ∀ l : LinkNo, (s.link l).controlList.Nodup
    ∧ ∀ c : CircuitNo, c ∈ (s.link l).controlList ↔
        ∃ r ∈ s.record c, r.link = l ∧ r.owed.isEmpty = false ∧ (s.link l).isUp = true

/-- R135, R127: nothing is owed by a circuit whose link is not UP. -/
abbrev OwedLaw (s : State) : Prop :=
  s.everyRecord fun _ r => (s.link r.link).isUp = false → r.owed.isEmpty = true

/-- R16: every circuit in a live state belongs to a link in state UP. -/
abbrev LiveLinkLaw (s : State) : Prop :=
  s.everyRecord fun _ r => r.phase.live = true → (s.link r.link).isUp = true

/-- R134: an answer list holds up to 8 items, and the list of a link that is not UP is empty. -/
abbrev AnswerListLaw (s : State) : Prop :=
  ∀ l : LinkNo, (s.link l).answerList.length ≤ Config.answerCapacity
    ∧ ((s.link l).isUp = false → (s.link l).answerList = [])

/-- R16: no two circuits in OFFERED, OPEN, DRAINING or CLOSING have the same link and the same peer
circuit number. -/
abbrev PeerLaw (s : State) : Prop :=
  s.everyRecord fun c r =>
    ∀ p ∈ r.peer, r.phase.counted = true →
      s.everyRecord fun d q => q.holdsPeer r.link p.circuit = true → d = c

/-- R101, R102, R103: a link in SEEKING or UP whose transmitter is IDLE has nothing to send; a STOPPED
link has no HELLO due, no timer running and an IDLE transmitter. -/
abbrev IdleLaw (s : State) : Prop :=
  ∀ l : LinkNo,
    ((s.link l).state ≠ .stopped → (s.link l).onLine = none →
      (s.link l).helloDue = false ∧ (s.link l).controlList = [] ∧ (s.link l).answerList = []
        ∧ s.dataChoice l = none)
    ∧ ((s.link l).state = .stopped →
      (s.link l).onLine = none ∧ (s.link l).helloDue = false ∧ (s.link l).helloTimer = none
        ∧ (s.link l).deadTimer = none)

/-- R121, R124, R127: the dead timer runs exactly while the link is UP. -/
abbrev DeadTimerLaw (s : State) : Prop :=
  ∀ l : LinkNo, (s.link l).deadTimer.isSome = (s.link l).isUp

/-- R121: an epoch in use is never 0. -/
abbrev EpochLaw (s : State) : Prop :=
  ∀ l : LinkNo, (s.link l).state ≠ .stopped → (s.link l).ownEpoch ≠ 0

/-- R139, R141, R144, R148: what the line transmitter sends is there to be sent: nothing where it is IDLE, a
frame under the configuration that stands, or a cut delimiter that is still to end. -/
def Link.transmitterFits (x : Link) : Bool :=
  match x.transmitter with
  | .idle => x.onLine.isNone && decide (x.cutDelimiters = 0)
  | .sendingFrame cfg => decide (cfg = x.config) && x.onLine.isSome && decide (x.cutDelimiters = 0)
  | .finishing _ => decide (x.cutDelimiters ≠ 0)
  | .sendingDelimiter _ => decide (x.cutDelimiters ≠ 0)

/-- R139, R144: a character is received under the configuration that stands. -/
def Link.receiverFits (x : Link) : Bool :=
  match x.receiver with
  | .receiving cfg => decide (cfg = x.config)
  | .ready => true
  | .waiting => true

/-- R139, R141, R144, R148, R149: the line transmitter and the receiver of every link agree with the frame
on the line, the cut delimiters and the configuration; a link that is not looped has nothing on its
internal path, and a STOPPED link no frame on the line. -/
abbrev LineLaw (s : State) : Prop :=
  ∀ l : LinkNo, (s.link l).transmitterFits = true ∧ (s.link l).receiverFits = true
    ∧ ((s.link l).config.loopback = false → (s.link l).loopPath = [])
    ∧ ((s.link l).state = .stopped → (s.link l).onLine = none)

/-- R176 to R178: only a held part is in the power-on hold, and a held part has no command in progress, no
record, no running timer, every link STOPPED and every line transmitter IDLE. -/
abbrev HoldLaw (s : State) : Prop :=
  (s.powering = true → s.held = true)
    ∧ (s.held = true → s.command = none ∧ (∀ c : CircuitNo, s.record c = none)
      ∧ ∀ l : LinkNo, (s.link l).state = .stopped ∧ (s.link l).transmitter = .idle
        ∧ (s.link l).helloTimer = none ∧ (s.link l).deadTimer = none)

/-! ### Services -/

/-- R25, R28: the ranges of the fields of an entry that the host sets. -/
abbrev Service.inRange (e : Service) : Prop :=
  e.number ≠ 0 ∧ e.linkMask ≠ 0 ∧ 1 ≤ e.limit ∧ e.limit ≤ 64 ∧ 1 ≤ e.quota ∧ e.quota ≤ 64
    ∧ 1 ≤ e.threshold ∧ e.threshold ≤ e.quota ∧ 1 ≤ e.depth ∧ e.depth ≤ 32

/-- R25: at most 16 entries, no two with one number, and the range of every field that the host sets. -/
abbrev ServiceTableLaw (s : State) : Prop :=
  s.services.length ≤ Config.serviceCapacity
    ∧ (s.services.map Service.number).Nodup
    ∧ ∀ e ∈ s.services, e.inRange

/-- R26: the active count of every entry is the number of circuits it counts. -/
abbrev ActiveCountLaw (s : State) : Prop :=
  ∀ e ∈ s.services, e.active = s.countFor e.number

/-- R3, R26: a CALLING circuit is OUTGOING, so that no circuit enters the counted states but by an
admission. -/
abbrev CallingLaw (s : State) : Prop :=
  s.everyRecord fun _ r => r.phase = .calling → r.direction = .outgoing

/-! ### Fields by state (R4, R9 to R12, R42, R61, R67, R89) -/

/-- The kinds that a record may owe in each state: OPEN in CALLING, nothing in OFFERED, ACCEPT, GRANT and
ASK in OPEN and DRAINING, CLOSE besides in CLOSING, and in ENDED CLOSED, or CLOSE after the end causes
that R61 lists, and neither without a recorded peer (R14, R35, R61, R67, R85, R90). -/
def Record.owedKinds (r : Record) : Bool :=
  let o := r.owed
  match r.phase with
  | .calling => !(o.accept || o.grant || o.ask || o.close || o.closed)
  | .offered => o.isEmpty
  | .opened => !(o.openRequest || o.close || o.closed)
  | .draining => !(o.openRequest || o.close || o.closed)
  | .closing _ => !(o.openRequest || o.closed)
  | .ended cause _ _ =>
    !(o.accept || o.grant || o.ask || o.openRequest)
      && (!(o.close || o.closed) || r.peer.isSome)
      && (!o.close || cause == .localAbort || cause == .withdrawn || cause == .superseded)

/-- The receive and transmit counters stand as the allocation set them (R17, R42). -/
def Record.untouched (r : Record) : Bool :=
  r.rxQueue.isEmpty && decide (r.received = 0) && decide (r.expected = 0) && decide (r.sent = 0)
    && decide (r.nextSeq = 0) && decide (r.advertised = wordOf r.quota)

/-- What the other fields are in each state. -/
def Record.presence (r : Record) : Bool :=
  match r.phase with
  | .calling =>
    decide (r.direction = .outgoing) && r.peer.isNone && r.holdTimer.isNone && r.untouched
      && decide (r.creditLimit = 0) && (r.retryTimer.isNone || !r.owed.openRequest)
  | .offered =>
    decide (r.direction = .incoming) && r.peer.isSome && r.retryTimer.isNone && r.holdTimer.isSome
      && decide (r.retryCount = 0) && r.txQueue.isEmpty && r.untouched
  | .opened => r.peer.isSome && r.retryTimer.isNone && r.holdTimer.isNone && decide (r.retryCount = 0)
  | .draining =>
    r.peer.isSome && r.retryTimer.isNone && r.holdTimer.isNone && decide (r.retryCount = 0)
      && !r.txQueue.isEmpty
  | .closing _ =>
    r.peer.isSome && r.holdTimer.isNone && r.txQueue.isEmpty
      && (r.retryTimer.isNone || !r.owed.close)
  | .ended _ _ _ =>
    r.retryTimer.isNone && r.holdTimer.isNone && decide (r.retryCount = 0) && !r.roomWanted
      && r.txQueue.isEmpty

/-- The fields of every record agree with its state, and the ask timer runs exactly while the circuit is
blocked (R12, R89). -/
abbrev RecordLaw (s : State) : Prop :=
  s.everyRecord fun _ r =>
    r.owedKinds = true ∧ r.presence = true ∧ r.askTimer.isSome = r.blocked

/-! ### What an event meets: the words of the statements -/

/-- The command whose completion a row of the table is, if it is one (R167, R169). -/
def commandName : Instr → Option CommandName
  | .partConfigure => some .partConfigure
  | .partQuery => some .partQuery
  | .clear => some .clear
  | .linkConfigure _ => some .linkConfigure
  | .linkStart => some .linkStart
  | .linkStop => some .linkStop
  | .linkQuery => some .linkQuery
  | .serviceRegister => some .serviceRegister
  | .serviceAmend => some .serviceAmend
  | .serviceWithdraw => some .serviceWithdraw
  | .serviceQuery => some .serviceQuery
  | .circuitCall => some .circuitCall
  | .circuitAnswer => some .circuitAnswer
  | .circuitRefuse => some .circuitRefuse
  | .circuitClose => some .circuitClose
  | .circuitAbort => some .circuitAbort
  | .circuitRelease => some .circuitRelease
  | .circuitQuery => some .circuitQuery
  | .circuitAmend => some .circuitAmend
  | .circuitFind => some .circuitFind
  | .send => some .send
  | .receive => some .receive
  | .nextNotice => some .nextNotice
  | .poolQuery => some .poolQuery
  | .badCommand => some .bad
  | _ => none

/-- The results that the rule of each command names (R170). -/
def resultsOf : CommandName → List ResultCode
  | .partConfigure => [.ok, .badArgument]
  | .partQuery => [.ok]
  | .clear => [.ok]
  | .linkConfigure => [.ok, .badArgument, .wrongState]
  | .linkStart => [.ok, .badArgument, .wrongState]
  | .linkStop => [.ok, .badArgument, .wrongState]
  | .linkQuery => [.ok, .badArgument]
  | .serviceRegister => [.ok, .badArgument, .duplicate, .tableFull]
  | .serviceAmend => [.ok, .badArgument, .noSuchService]
  | .serviceWithdraw => [.ok, .badArgument, .noSuchService, .inUse]
  | .serviceQuery => [.ok, .badArgument, .noSuchService]
  | .circuitCall => [.ok, .badArgument, .linkDown, .noCircuit, .noRoom]
  | .circuitAnswer => [.ok, .noSuchCircuit, .wrongState, .badArgument]
  | .circuitRefuse => [.ok, .noSuchCircuit, .wrongState]
  | .circuitClose => [.ok, .noSuchCircuit, .wrongState]
  | .circuitAbort => [.ok, .noSuchCircuit, .wrongState]
  | .circuitRelease => [.ok, .noSuchCircuit, .wrongState]
  | .circuitQuery => [.ok, .noSuchCircuit]
  | .circuitAmend => [.ok, .noSuchCircuit, .wrongState, .badArgument]
  | .circuitFind => [.ok, .badArgument, .notFound]
  | .send => [.ok, .noSuchCircuit, .badArgument, .wrongState, .full]
  | .receive => [.ok, .noSuchCircuit, .wrongState, .empty]
  | .nextNotice => [.ok, .none]
  | .poolQuery => [.ok]
  | .bad => [.badCommand]

/-- The nine commands that name an existing circuit in ARG0 (R2). -/
def namesCircuit : CommandName → Bool
  | .circuitAnswer | .circuitRefuse | .circuitClose | .circuitAbort | .circuitRelease
  | .circuitQuery | .circuitAmend | .send | .receive => true
  | _ => false

/-- A command of a name is in progress in a part that is not held. -/
abbrev State.completes (s : State) (name : CommandName) (cmd : Command) : Prop :=
  s.held = false ∧ s.command = some cmd ∧ cmd.name = name

/-- The window after the completion of a command with a result code of R170, but for the return words:
the codes in word 0, BUSY clear and DONE set (R167). -/
def State.settled (s : State) (cmd : Command) (code : Byte) : State :=
  { s with word0 := pack cmd.code code, command := none, done := true }

/-- ARG0 of a command names a circuit that is not FREE. -/
abbrev State.names (s : State) (cmd : Command) (c : CircuitNo) (r : Record) : Prop :=
  cmd.args[0].toNat = c.val ∧ s.record c = some r

/-- The row of a valid frame on a link. -/
def Frame.row (l : LinkNo) : Frame → Instr
  | .hello epoch seen => .helloFrame l epoch seen
  | .openRequest hdr service quota => .openFrame l hdr service quota
  | .accept hdr quota => .acceptFrame l hdr quota
  | .refuse hdr reason => .refuseFrame l hdr reason
  | .close hdr reason => .closeFrame l hdr reason
  | .closed hdr => .closedFrame l hdr
  | .data hdr sequence payload => .dataFrame l hdr sequence payload
  | .grant hdr limit => .grantFrame l hdr limit
  | .ask hdr => .askFrame l hdr

/-- A frame of the layout of R115: the payload of a DATA frame has 1..32 bytes. -/
def Frame.fits : Frame → Prop
  | .data _ _ payload => 1 ≤ payload.length ∧ payload.length ≤ 32
  | _ => True

/-- Where the Link Controller of a link in a given state takes a frame, the state of the part as it takes
it. A link that watches its line takes every frame that arrives. A looped link takes the frame whose
characters are next on its internal path, and they have left the path (R149; log entries 9 and 11). -/
def State.hears (s : State) (l : LinkNo) (phase : LinkState) (f : Frame) : Option State :=
  if s.held = true ∨ (s.link l).state ≠ phase then none
  else if (s.link l).config.loopback = false then some s
  else if lineCharacters f <+: (s.link l).loopPath then
    some (s.onLink l fun x => { x with loopPath := x.loopPath.drop (lineCharacters f).length })
  else none

/-- A valid frame has been assembled on a link: its closing delimiter opens the next frame (R118). -/
def State.assembled (s : State) (l : LinkNo) : State :=
  s.onLink l fun x => { x with assembly := .gather, buffer := [] }

/-- A valid frame has been assembled on an UP link, and the dead timer runs again with the current D × H
(R118, R125). -/
def State.heard (s : State) (l : LinkNo) : State :=
  s.onLink l fun x =>
    { x with assembly := .gather, buffer := [], deadTimer := some s.settings.deadMs }

/-- Whether a circuit meets the criterion of a mode of CIRCUIT-FIND (R22). -/
def Circuit.meets (x : Circuit) (mode v1 v2 : Nat) : Prop :=
  match mode with
  | 1 => ∃ r ∈ x.record, r.link.val = v1 ∧ ∃ p ∈ r.peer, p.circuit.toNat = v2
  | 2 => ∃ r ∈ x.record, r.service.toNat = v1
  | 3 => x.stateCode = v1
  | 4 => ∃ r ∈ x.record, r.tag.toNat = v1
  | _ => False

/-- The words of an entry in the layout of R27, as SERVICE-REGISTER and SERVICE-AMEND read them; the high
byte of ARG2 is not examined. -/
def Service.laidOut (e : Service) (a : Vector Word 8) : Prop :=
  a[0].toNat = e.number.toNat
    ∧ a[1] = pack
        ((match e.mode with
          | .auto => 0
          | .hold => 1) + (if e.listening then 0 else 2))
        (e.linkMask.setWidth 8)
    ∧ (loByte a[2]).toNat = e.limit ∧ a[3].toNat = e.quota ∧ a[4].toNat = e.threshold
    ∧ a[5].toNat = e.priority.val ∧ a[6].toNat = e.depth ∧ a[7] = e.tag

/-- Whether the words of R27 are in the ranges of R28. -/
def serviceWordsInRange (a : Vector Word 8) : Prop :=
  (1 ≤ a[0].toNat ∧ a[0].toNat ≤ 255) ∧ a[1].toNat / 256 ≤ 3
    ∧ (1 ≤ a[1].toNat % 256 ∧ a[1].toNat % 256 ≤ 15)
    ∧ (1 ≤ a[2].toNat % 256 ∧ a[2].toNat % 256 ≤ 64) ∧ (1 ≤ a[3].toNat ∧ a[3].toNat ≤ 64)
    ∧ (1 ≤ a[4].toNat ∧ a[4].toNat ≤ a[3].toNat) ∧ a[5].toNat ≤ 3
    ∧ (1 ≤ a[6].toNat ∧ a[6].toNat ≤ 32)

/-- The link whose line or whose timer an event comes from, if it comes from one. -/
def lineOf : Instr → Option LinkNo
  | .helloFrame l _ _ => some l
  | .openFrame l _ _ _ => some l
  | .acceptFrame l _ _ => some l
  | .refuseFrame l _ _ => some l
  | .closeFrame l _ _ => some l
  | .closedFrame l _ => some l
  | .dataFrame l _ _ _ => some l
  | .grantFrame l _ _ => some l
  | .askFrame l _ => some l
  | .frameDiscard l _ => some l
  | .lineFault l _ => some l
  | .helloTimerExpiry l => some l
  | .deadTimerExpiry l => some l
  | .transmissionCompletion l => some l
  | .receivedCharacter l _ => some l
  | .returnToMark l => some l
  | .cutDelimiterCompletion l => some l
  | _ => none

end Sys2Proof.Machine
end

