-- ==== Sys2Proof/Certificates/Slice0/Obligations.lean ====
section
/-! DEFINITION. The statements for the provers. Where a statement says `exec i s = .next t`, the update `t`
of `s` is also its frame: every field that the update does not name is unchanged. `State.finishClaim`,
`State.boundary` and the other named operations in an update are stated by statements of their own. -/

open Sys2Proof Sys2Proof.Machine

/-! ### Steps and the window (chapter 9) -/

/-- 01, R1 and log entry 1: the part takes one event at a time, and each step is that event's whole
effect. -/
def Obligations.StepTakesTheFrontEvent : Prop :=
  ∀ (i : Instr) (s : State) (rest : List Instr),
    s.pending = i :: rest → step s = exec i { s with pending := rest }

/-- 09, section 9.1 and section 9.2 (R163 to R166), 08, section 8.5 (R158): every write of the window.
That a MAILBOX_WRITE to word 0, 1 or 2 acts as that word's own row is log entry 18. -/
def Obligations.BusWritesChangeTheWindow : Prop :=
  ∀ (s : State) (value : Word), s.held = false →
    (s.command = none →
      exec (.commandStart value) s = .next
        { s with
          command := some
            { name := commandOfWrite value, code := loByte value, args := s.args, data := s.data }
          word0 := pack (loByte value) 0xFF
          done := false })
    ∧ (s.command ≠ none → exec (.commandStart value) s = .next { s with collide := true })
    ∧ (∀ k : Fin 8, s.command = none →
        exec (.mailboxWrite (BitVec.ofNat 5 (4 + k.val)) value) s
          = .next { s with args := s.args.set k value })
    ∧ (∀ k : Fin 16, s.command = none →
        exec (.mailboxWrite (BitVec.ofNat 5 (12 + k.val)) value) s
          = .next { s with data := s.data.set k value })
    ∧ (∀ word : BitVec 5, 4 ≤ word.toNat → word.toNat < 28 → s.command ≠ none →
        exec (.mailboxWrite word value) s = .next { s with collide := true })
    ∧ (∀ word : BitVec 5, word = 3 ∨ 28 ≤ word.toNat →
        exec (.mailboxWrite word value) s = .next s)
    ∧ exec (.mailboxWrite 0 value) s = exec (.commandStart value) s
    ∧ exec (.mailboxWrite 1 value) s = exec (.statusWrite value) s
    ∧ exec (.mailboxWrite 2 value) s = exec (.controlWrite value) s
    ∧ exec (.statusWrite value) s = .next
        { s with
          done := s.done && !value.getLsbD 1
          collide := s.collide && !value.getLsbD 3 }
    ∧ exec (.controlWrite value) s = .next
        { s with noticeEnable := value.getLsbD 0, completionEnable := value.getLsbD 1 }

/-- 09, section 9.1 (R163, R164), 08, R159 and R160: what a bus read of each word returns, and when INT is
asserted. -/
def Obligations.BusReadsAndTheInterruptLine : Prop :=
  ∀ s : State, s.held = false →
    s.busRead 0 = some s.word0
    ∧ (∃ w, s.busRead 1 = some w
        ∧ w.getLsbD 0 = s.command.isSome ∧ w.getLsbD 1 = s.done
        ∧ w.getLsbD 2 = !s.noticeList.isEmpty ∧ w.getLsbD 3 = s.collide
        ∧ (∀ l : Fin 4, w.getLsbD (8 + l.val) = decide ((s.link l).state = .up))
        ∧ ∀ b, (4 ≤ b ∧ b < 8) ∨ 12 ≤ b → w.getLsbD b = false)
    ∧ (∃ w, s.busRead 2 = some w
        ∧ w.getLsbD 0 = s.noticeEnable ∧ w.getLsbD 1 = s.completionEnable
        ∧ ∀ b, 2 ≤ b → w.getLsbD b = false)
    ∧ s.busRead 3 = some 0x6401
    ∧ (∀ k : Fin 8, s.busRead (BitVec.ofNat 5 (4 + k.val)) = some s.args[k])
    ∧ (∀ k : Fin 16, s.busRead (BitVec.ofNat 5 (12 + k.val)) = some s.data[k])
    ∧ (∀ word : BitVec 5, 28 ≤ word.toNat → s.busRead word = some 0)
    ∧ (s.intAsserted = true ↔
      (s.noticeList ≠ [] ∧ s.noticeEnable = true) ∨ (s.done = true ∧ s.completionEnable = true))

/-- 09, section 9.2.1 (R165, R168, R169): the command that a value written to word 0 starts. -/
def Obligations.CommandCodesNameTheCommands : Prop :=
  (∀ value : Word, 256 ≤ value.toNat → commandOfWrite value = .bad)
  ∧ commandOfWrite 0x01 = .partConfigure ∧ commandOfWrite 0x02 = .partQuery
  ∧ commandOfWrite 0x03 = .clear ∧ commandOfWrite 0x08 = .linkConfigure
  ∧ commandOfWrite 0x09 = .linkStart ∧ commandOfWrite 0x0A = .linkStop
  ∧ commandOfWrite 0x0B = .linkQuery ∧ commandOfWrite 0x10 = .serviceRegister
  ∧ commandOfWrite 0x11 = .serviceAmend ∧ commandOfWrite 0x12 = .serviceWithdraw
  ∧ commandOfWrite 0x13 = .serviceQuery ∧ commandOfWrite 0x18 = .circuitCall
  ∧ commandOfWrite 0x19 = .circuitAnswer ∧ commandOfWrite 0x1A = .circuitRefuse
  ∧ commandOfWrite 0x1B = .circuitClose ∧ commandOfWrite 0x1C = .circuitAbort
  ∧ commandOfWrite 0x1D = .circuitRelease ∧ commandOfWrite 0x1E = .circuitQuery
  ∧ commandOfWrite 0x1F = .circuitAmend ∧ commandOfWrite 0x20 = .circuitFind
  ∧ commandOfWrite 0x28 = .send ∧ commandOfWrite 0x29 = .receive
  ∧ commandOfWrite 0x30 = .nextNotice ∧ commandOfWrite 0x31 = .poolQuery
  ∧ ∀ value : Word, value.toNat ∉
      [0x01, 0x02, 0x03, 0x08, 0x09, 0x0A, 0x0B, 0x10, 0x11, 0x12, 0x13, 0x18, 0x19, 0x1A, 0x1B,
       0x1C, 0x1D, 0x1E, 0x1F, 0x20, 0x28, 0x29, 0x30, 0x31] →
      commandOfWrite value = .bad

/-- 09, R171 and R172: the six settings change together or not at all, and no running timer changes. -/
def Obligations.PartConfigureSetsTheSixSettings : Prop :=
  ∀ (s : State) (cmd : Command), s.completes .partConfigure cmd →
    let a := cmd.args
    let inRange :=
      (1 ≤ a[0].toNat ∧ a[0].toNat ≤ 255) ∧ (2 ≤ a[1].toNat ∧ a[1].toNat ≤ 15)
        ∧ (1 ≤ a[2].toNat ∧ a[2].toNat ≤ 255) ∧ (1 ≤ a[3].toNat ∧ a[3].toNat ≤ 15)
        ∧ (1 ≤ a[4].toNat ∧ a[4].toNat ≤ 255) ∧ (1 ≤ a[5].toNat ∧ a[5].toNat ≤ 255)
    (inRange →
      exec .partConfigure s = .next
        { s.settled cmd 0 with
          settings :=
            { hello := a[0].toNat, deadCount := a[1].toNat, retry := a[2].toNat
              retryLimit := a[3].toNat, answerHold := a[4].toNat, ask := a[5].toNat } })
    ∧ (¬ inRange → exec .partConfigure s = .next (s.settled cmd 2))

/-- 09, R168, R173 and 04, R93: PART_QUERY, POOL_QUERY and BAD_COMMAND always complete, with these
words. -/
def Obligations.PartPoolAndBadCommandReplies : Prop :=
  ∀ (s : State) (cmd : Command),
    (s.completes .partQuery cmd →
      exec .partQuery s = .next
        { s.settled cmd 0 with
          args := #v[wordOf s.settings.hello, wordOf s.settings.deadCount, wordOf s.settings.retry,
            wordOf s.settings.retryLimit, wordOf s.settings.answerHold, wordOf s.settings.ask,
            0x6401, 0] })
    ∧ (s.completes .poolQuery cmd → TransmitPoolLaw s →
      exec .poolQuery s = .next
        { s.settled cmd 0 with
          args := (((s.args.set 0 (wordOf s.reservationTotal)).set 1 (wordOf s.cellsHeld)).set 2
            (wordOf ((s.sumRecords fun r => r.txQueue.length) + s.cellsOnLines))).set 3
            (wordOf (512 - s.reservationTotal)) })
    ∧ (s.completes .bad cmd → exec .badCommand s = .next (s.settled cmd 1))

/-- 09, R167 and 01, R2: a completion that is neither OK, FULL nor IN-USE changes the part in nothing but
the end of the command, return words included; and each of the nine commands that name a circuit answers
NO-SUCH-CIRCUIT, before any other check, where ARG0 names none. -/
def Obligations.FailingCommandsChangeNothing : Prop :=
  (∀ (i : Instr) (name : CommandName) (s t : State) (cmd : Command),
    commandName i = some name → s.completes name cmd → exec i s = .next t →
    loByte t.word0 ≠ 0 → loByte t.word0 ≠ 8 → loByte t.word0 ≠ 13 →
    t = s.settled cmd (loByte t.word0))
  ∧ ∀ (i : Instr) (name : CommandName) (s : State) (cmd : Command),
    commandName i = some name → namesCircuit name = true → s.completes name cmd →
    (63 < cmd.args[0].toNat ∨ ∃ c : CircuitNo, cmd.args[0].toNat = c.val ∧ s.record c = none) →
    exec i s = .next (s.settled cmd 3)

/-- 09, R167, R168 and R170: every command completes, in every state of the part, with one of the results
that its own rule names, and its completion ends it. -/
def Obligations.EveryCommandCompletesWithANamedResult : Prop :=
  ∀ (i : Instr) (name : CommandName) (s : State) (cmd : Command),
    commandName i = some name → s.completes name cmd →
    ∃ t, exec i s = .next t ∧ (∃ r ∈ resultsOf name, t.word0 = pack cmd.code r.code)
      ∧ t.command = none ∧ t.done = true
      ∧ t.noticeEnable = s.noticeEnable ∧ t.completionEnable = s.completionEnable
      ∧ t.collide = s.collide ∧ t.held = false ∧ t.pending = s.pending

/-! ### Resets (section 9.5) -/

/-- 00 to 09, R24, R47, R94, R113, R137, R139, R151, R162, R173 and R178: the part right after power-on with
every input line at mark. That the lines are at mark and RESETN is high is log entry 5. -/
def Obligations.PowerOnValues : Prop :=
  State.reset =
    { circuits := Vector.replicate 64 { generation := 0, record := none }
      services := []
      reservationTotal := 0
      cellsHeld := 0
      txFree := 256
      links := Vector.replicate 4
        { state := .stopped
          ownEpoch := 0
          peerEpoch := 0
          helloDue := false
          helloTimer := none
          deadTimer := none
          controlList := []
          answerList := []
          lastFault := .none
          lastDown := none
          onLine := none
          lastServed := Vector.replicate 4 63
          assembly := .hunt
          buffer := []
          config :=
            { divisor := 10, fraction := 0, parity := .none, stopBits := .one, loopback := false }
          transmitter := .idle
          receiver := .ready
          cutDelimiters := 0
          loopPath := [] }
      circuitNotices := Vector.replicate 64 { }
      linkNotices := Vector.replicate 4 { }
      noticeList := []
      noticeEnable := false
      completionEnable := false
      word0 := 0
      args := Vector.replicate 8 0
      data := Vector.replicate 16 0
      done := false
      collide := false
      command := none
      settings :=
        { hello := 10, deadCount := 4, retry := 20, retryLimit := 5, answerHold := 20, ask := 25 }
      held := false
      powering := false
      pending := [] }

/-- 09, R176 to R178, with R24, R47, R94, R113, R137, R151, R162 and R173: what the two pins reset, what a
RESETN pulse keeps, the power-on hold, which has RESETN's effect and which RESETN does not end, and that a
held part takes no event but the end of its hold and power-on. That the receiver of a looped link is READY
after a pulse is log entry 19; that the generations, epochs and configurations stand as they were until the
power-on hold ends is log entry 26. -/
def Obligations.ResetPinHoldAndPowerOn : Prop :=
  let afterPulse := fun (s : State) (rxd : Vector LineLevel 4) =>
    { State.reset with
      circuits := s.circuits.map fun x => { x with record := none }
      links := Vector.ofFn fun l : Fin 4 =>
        { Link.reset with
          ownEpoch := (s.link l).ownEpoch
          peerEpoch := (s.link l).peerEpoch
          config := (s.link l).config
          receiver :=
            if (s.link l).config.loopback = true ∨ rxd[l] = .mark then .ready else .waiting }
      held := true
      pending := s.pending }
  (∀ (s : State) (lowNs : Nat) (rxd : Vector LineLevel 4), s.held = false →
    (lowNs < 500 → exec (.resetnPulse lowNs rxd) s = .next s)
    ∧ (500 ≤ lowNs → exec (.resetnPulse lowNs rxd) s = .next (afterPulse s rxd)))
  ∧ (∀ (s : State) (rxd : Vector LineLevel 4),
    exec (.powerOn .supplyRises rxd) s = .next { afterPulse s rxd with powering := true })
  ∧ (∀ s : State, s.powering = false → exec .resetnRelease s = .next { s with held := false })
  ∧ (∀ s : State, s.powering = true → exec .resetnRelease s = .next s)
  ∧ (∀ (s : State) (low : Bool) (rxd : Vector LineLevel 4),
    exec (.powerOn (.holdEnds low) rxd) s = .next
      { State.reset with
        links := Vector.ofFn fun l : Fin 4 =>
          { Link.reset with receiver := if rxd[l] = .mark then .ready else .waiting }
        held := low
        pending := s.pending })
  ∧ ∀ (i : Instr) (s : State), s.held = true →
    i ≠ .resetnRelease → (∀ moment rxd, i ≠ .powerOn moment rxd) →
    exec i s = .next s ∧ s.intAsserted = false ∧ (∀ l, s.outputAtMark l = true)
      ∧ ∀ word, s.busRead word = none

/-- 09, R174, with R24, R47, R94, R113, R138 and R162: CLEAR in one claim, and what it keeps. -/
def Obligations.ClearEmptiesTheTables : Prop :=
  ∀ (s : State) (cmd : Command), s.completes .clear cmd →
    let emptied : State :=
      { s with
        circuits := s.circuits.map fun x => { x with record := none }
        services := []
        reservationTotal := 0
        cellsHeld := 0
        txFree := 256 - s.cellsOnLines
        links := s.links.map fun x =>
          if x.state = .stopped then { x with lastServed := Vector.replicate 4 63 }
          else
            { x with
              lastServed := Vector.replicate 4 63
              state := .seeking
              ownEpoch := if x.ownEpoch = 65535 then 1 else x.ownEpoch + 1
              peerEpoch := 0
              helloDue := true
              helloTimer := some (s.settings.hello * 10)
              deadTimer := none
              controlList := []
              answerList := [] }
        circuitNotices := Vector.replicate 64 { }
        linkNotices := Vector.replicate 4 { }
        noticeList := [] }
    exec .clear s = .next
      { emptied.boundaries.settled cmd 0 with
        args :=
          ((s.args.set 0 (wordOf (allCircuits.countP fun c => (s.record c).isSome))).set 1
            (wordOf s.services.length)).set 2
            (wordOf (allLinks.countP fun l => decide ((s.link l).state ≠ .stopped))) }

/-! ### The circuit table (chapter 1) -/

/-- 01, R3, R10 and R19: every word that CIRCUIT-QUERY returns, with the codes of the states, directions and
end causes that it and CIRCUIT-FIND and NEXT-NOTICE give, and that it changes nothing else. -/
def Obligations.CircuitQueryReturnsEveryField : Prop :=
  (∀ x : Circuit, x.stateCode =
    match x.record.map Record.phase with
    | none => 0
    | some p => p.code)
  ∧ (∀ p : Phase, p.code =
    match p with
    | .calling => 1
    | .offered => 2
    | .opened => 3
    | .draining => 4
    | .closing _ => 5
    | .ended _ _ _ => 6)
  ∧ (∀ d : Direction, d.code =
    match d with
    | .outgoing => 0
    | .incoming => 1)
  ∧ (∀ e : EndCause, e.code =
    match e with
    | .localClose => 1
    | .localAbort => 2
    | .peerClose => 3
    | .refused => 4
    | .noAnswer => 5
    | .closeTimeout => 6
    | .sequenceLoss => 8
    | .creditViolation => 9
    | .superseded => 10
    | .withdrawn => 11
    | .linkStopped => 12
    | .linkLost => 13
    | .peerRestart => 14)
  ∧ ∀ (s : State) (cmd : Command) (c : CircuitNo) (r : Record),
    s.completes .circuitQuery cmd → s.names cmd c r →
    exec .circuitQuery s = .next
      { s.settled cmd 0 with
        args := #v[
          wordOf c.val,
          pack (byteOf r.phase.code) (s.circuit c).generation,
          pack (byteOf r.direction.code) (byteOf r.link.val),
          pack (byteOf r.priority.val) r.service,
          (match r.peer with
            | none => pack 255 0
            | some p => pack p.circuit p.generation),
          r.tag,
          pack (byteOf r.quota) (byteOf r.threshold),
          pack (byteOf r.depth) (if r.roomWanted then 1 else 0)]
        data := #v[
          r.received, r.advertised, r.sent, r.creditLimit,
          pack (byteOf r.rxQueue.length) r.expected,
          pack (byteOf r.txQueue.length) r.nextSeq,
          wordOf ((if r.owed.accept then 1 else 0) + (if r.owed.grant then 2 else 0)
            + (if r.owed.ask then 4 else 0) + (if r.owed.openRequest then 8 else 0)
            + (if r.owed.close then 16 else 0) + (if r.owed.closed then 32 else 0)),
          pack
            (match r.phase with
              | .closing .normal => 1
              | .closing .loss => 3
              | .closing .violation => 4
              | _ => 0)
            (byteOf r.retryCount),
          (match r.phase with
            | .ended cause detail _ => pack (byteOf cause.code) (detail.getD 0)
            | _ => 0),
          (match r.phase with
            | .ended _ _ discarded => wordOf discarded
            | _ => 0),
          0, 0, 0, 0, 0, 0] }

/-- 01, R20: the release of an ENDED record, and its refusal for a live one. -/
def Obligations.CircuitReleaseFreesAnEndedRecord : Prop :=
  ∀ (s : State) (cmd : Command) (c : CircuitNo) (r : Record),
    s.completes .circuitRelease cmd → s.names cmd c r →
    (r.phase.live = true → exec .circuitRelease s = .next (s.settled cmd 4))
    ∧ (r.phase.live = false →
      exec .circuitRelease s = .next
        { s.settled cmd 0 with
          args :=
            (s.args.set 1 (wordOf r.rxQueue.length)).set 2 ((s.circuit c).generation.setWidth 16)
          circuits := s.circuits.set c { generation := (s.circuit c).generation, record := none }
          cellsHeld := s.cellsHeld - r.rxQueue.length
          reservationTotal := s.reservationTotal - r.quota
          links := s.links.set r.link
            { s.link r.link with
              controlList := (s.link r.link).controlList.filter fun d => d ≠ c }
          circuitNotices := s.circuitNotices.set c { }
          noticeList := s.noticeList.filter fun x => x ≠ .circuit c })

/-- 01, R22: CIRCUIT-FIND returns the lowest match at or above the start, or NOT-FOUND where there is
none, and BAD-ARGUMENT where a value is out of its range. -/
def Obligations.CircuitFindReturnsTheLowestMatch : Prop :=
  ∀ (s : State) (cmd : Command), s.completes .circuitFind cmd →
    let start := cmd.args[0].toNat
    let mode := cmd.args[1].toNat
    let v1 := cmd.args[2].toNat
    let v2 := cmd.args[3].toNat
    let inRange :=
      start ≤ 63 ∧ ((mode = 1 ∧ v1 ≤ 3 ∧ v2 ≤ 63) ∨ (mode = 2 ∧ 1 ≤ v1 ∧ v1 ≤ 255)
        ∨ (mode = 3 ∧ v1 ≤ 6) ∨ mode = 4)
    (¬ inRange → exec .circuitFind s = .next (s.settled cmd 2))
    ∧ (inRange → (∀ c : CircuitNo, start ≤ c.val → ¬ (s.circuit c).meets mode v1 v2) →
      exec .circuitFind s = .next (s.settled cmd 14))
    ∧ (inRange → ∀ c : CircuitNo, start ≤ c.val → (s.circuit c).meets mode v1 v2 →
      (∀ d : CircuitNo, start ≤ d.val → d < c → ¬ (s.circuit d).meets mode v1 v2) →
      exec .circuitFind s = .next
        { s.settled cmd 0 with
          args := ((s.args.set 0 (wordOf c.val)).set 1
            (pack (byteOf (s.circuit c).stateCode) (s.circuit c).generation)).set 2
            (match s.record c with
              | none => 0
              | some r => r.tag) })

/-- 01, R23: CIRCUIT-AMEND sets every selected field in one claim and compares a new threshold at once, or
changes nothing. -/
def Obligations.CircuitAmendSetsTheSelectedFields : Prop :=
  ∀ (s : State) (cmd : Command) (c : CircuitNo) (r : Record),
    s.completes .circuitAmend cmd → s.names cmd c r →
    let a := cmd.args
    let selects := fun (b : Nat) => a[1].getLsbD b
    let inRange :=
      (1 ≤ a[1].toNat ∧ a[1].toNat ≤ 15)
        ∧ (selects 0 = true → a[2].toNat ≤ 3)
        ∧ (selects 1 = true → 1 ≤ a[3].toNat ∧ a[3].toNat ≤ r.quota)
        ∧ (selects 2 = true → 1 ≤ a[4].toNat ∧ a[4].toNat ≤ 32 ∧ r.txQueue.length ≤ a[4].toNat)
    (r.phase.live = false → exec .circuitAmend s = .next (s.settled cmd 4))
    ∧ (r.phase.live = true → ¬ inRange → exec .circuitAmend s = .next (s.settled cmd 2))
    ∧ (r.phase.live = true → inRange →
      ∀ priority : Fin 4, (priority.val = if selects 0 then a[2].toNat else r.priority.val) →
      let r' : Record :=
        { r with
          priority := priority
          threshold := if selects 1 then a[3].toNat else r.threshold
          depth := if selects 2 then a[4].toNat else r.depth
          tag := if selects 3 then a[5] else r.tag }
      let lead := (r.received + wordOf r.quota - wordOf r.rxQueue.length) - r.advertised
      let t := s.setRecord c (some r')
      let t :=
        if selects 1 = true ∧ r.phase.carriesData = true ∧ a[3].toNat ≤ lead.toNat then
          t.owe c .grant
        else t
      exec .circuitAmend s = .next ((State.finishClaim s t r.link).settled cmd 0))

/-! ### Services and admission (chapter 2) -/

/-- 02, R25, R26 and R28: SERVICE-REGISTER adds the entry that the words give, with the circuits that R26
counts for it, or changes nothing. The table with the entry is the spec's up to its order; the place of
the entry, `insertService`, is the model's choice, log entry 20. -/
def Obligations.ServiceRegisterAddsAnEntry : Prop :=
  ∀ (s : State) (cmd : Command), s.completes .serviceRegister cmd →
    (¬ serviceWordsInRange cmd.args → exec .serviceRegister s = .next (s.settled cmd 2))
    ∧ (serviceWordsInRange cmd.args →
      (∃ x ∈ s.services, x.number.toNat = cmd.args[0].toNat) →
      exec .serviceRegister s = .next (s.settled cmd 10))
    ∧ (serviceWordsInRange cmd.args →
      (∀ x ∈ s.services, x.number.toNat ≠ cmd.args[0].toNat) → 16 ≤ s.services.length →
      exec .serviceRegister s = .next (s.settled cmd 11))
    ∧ (serviceWordsInRange cmd.args →
      (∀ x ∈ s.services, x.number.toNat ≠ cmd.args[0].toNat) → s.services.length < 16 →
      ∃ e : Service, e.laidOut cmd.args ∧ e.active = s.countFor e.number
        ∧ (insertService e s.services).Perm (e :: s.services)
        ∧ exec .serviceRegister s = .next
          { s.settled cmd 0 with
            args := s.args.set 1 (wordOf e.active)
            services := insertService e s.services })

/-- 02, R29 and R30: SERVICE-AMEND replaces all of an entry but its number and its active count, and
SERVICE-QUERY writes an entry back in the common layout. -/
def Obligations.ServiceAmendAndQuery : Prop :=
  ∀ (s : State) (cmd : Command),
    let n := cmd.args[0].toNat
    let known := fun (x : Service) => s.services.find? (fun e => decide (e.number.toNat = n)) = some x
    (s.completes .serviceAmend cmd →
      ((n = 0 ∨ 255 < n) → exec .serviceAmend s = .next (s.settled cmd 2))
      ∧ (1 ≤ n → n ≤ 255 → (∀ x ∈ s.services, x.number.toNat ≠ n) →
        exec .serviceAmend s = .next (s.settled cmd 12))
      ∧ (∀ x, 1 ≤ n → n ≤ 255 → known x → ¬ serviceWordsInRange cmd.args →
        exec .serviceAmend s = .next (s.settled cmd 2))
      ∧ (∀ x, known x → serviceWordsInRange cmd.args →
        ∃ e : Service, e.laidOut cmd.args
          ∧ exec .serviceAmend s = .next
            { s.settled cmd 0 with
              args := s.args.set 1 (wordOf x.active)
              services := s.services.map fun y =>
                if y.number = x.number then { e with number := y.number, active := y.active }
                else y }))
    ∧ (s.completes .serviceQuery cmd →
      ((n = 0 ∨ 255 < n) → exec .serviceQuery s = .next (s.settled cmd 2))
      ∧ (1 ≤ n → n ≤ 255 → (∀ x ∈ s.services, x.number.toNat ≠ n) →
        exec .serviceQuery s = .next (s.settled cmd 12))
      ∧ (∀ x, 1 ≤ n → known x →
        exec .serviceQuery s = .next
          { s.settled cmd 0 with
            args := #v[
              wordOf n,
              pack
                ((match x.mode with
                  | .auto => 0
                  | .hold => 1) + (if x.listening then 0 else 2))
                (x.linkMask.setWidth 8),
              pack (byteOf x.active) (byteOf x.limit),
              wordOf x.quota, wordOf x.threshold, wordOf x.priority.val, wordOf x.depth, x.tag] }))

/-- 02, R31 and R32: the checks of SERVICE-WITHDRAW, the GENTLE removal, and the FORCE removal: what
becomes of every record, and of the table, before the ROOM notices and the frame boundaries that end the
claim. The FORCE removal takes the circuits in rising number: for the ENDED notices R153 says so, for the
REFUSE items and the control lists it is the model's choice, log entry 28; the end of the claim is log
entry 14. -/
def Obligations.ServiceWithdrawGentleAndForce : Prop :=
  ∀ (s : State) (cmd : Command), s.completes .serviceWithdraw cmd →
    let n := cmd.args[0].toNat
    let known := fun (x : Service) => s.services.find? (fun e => decide (e.number.toNat = n)) = some x
    let counts := fun (p : Phase → Bool) =>
      wordOf (allCircuits.countP fun c => (s.record c).any fun r =>
        r.direction = .incoming && r.service.toNat = n && p r.phase)
    ((n = 0 ∨ 255 < n ∨ 1 < cmd.args[1].toNat) →
      exec .serviceWithdraw s = .next (s.settled cmd 2))
    ∧ (1 ≤ n → n ≤ 255 → cmd.args[1].toNat ≤ 1 → (∀ x ∈ s.services, x.number.toNat ≠ n) →
      exec .serviceWithdraw s = .next (s.settled cmd 12))
    ∧ (∀ x, 1 ≤ n → known x → cmd.args[1] = 0 → 0 < x.active →
      exec .serviceWithdraw s = .next
        { s.settled cmd 13 with args := s.args.set 1 (wordOf x.active) })
    ∧ (∀ x, 1 ≤ n → known x → cmd.args[1] = 0 → x.active = 0 →
      exec .serviceWithdraw s = .next
        { s.settled cmd 0 with
          args := ((s.args.set 1 0).set 2 0).set 3 0
          services := s.services.filter fun e => e.number.toNat ≠ n })
    ∧ (∀ x, 1 ≤ n → known x → cmd.args[1] = 1 →
      let u := (s.forCircuits fun c t => t.withdrawCircuit x.number c).removeService x.number
      exec .serviceWithdraw s = .next
          { (State.afterReturns s u).boundaries.settled cmd 0 with
            args := ((s.args.set 1 (counts fun p => decide (p = .offered))).set 2
              (counts fun p => decide (p = .opened ∨ p = .draining))).set 3
              (counts Phase.isClosing) }
        ∧ (∀ (w : State) (c : CircuitNo) (r : Record) (p : Peer),
          w.record c = some r → r.direction = .incoming → r.service = x.number →
          r.peer = some p → r.phase = .offered →
          w.withdrawCircuit x.number c =
            (w.answer r.link (.refuse ⟨p.circuit, p.generation, 255, 0⟩ 6)).endCircuit c
              .withdrawn none)
        ∧ (∀ (w : State) (c : CircuitNo) (r : Record),
          w.record c = some r → r.direction = .incoming → r.service = x.number →
          r.phase.sendsData = true →
          w.withdrawCircuit x.number c = (w.owe c .close).endCircuit c .withdrawn none)
        ∧ (∀ e, e ∈ u.services ↔ e ∈ s.services ∧ e.number.toNat ≠ n)
        ∧ (∀ c, (u.circuit c).generation = (s.circuit c).generation)
        ∧ (∀ c, s.record c = none → u.record c = none)
        ∧ (∀ c r, s.record c = some r →
          u.record c = some (
            if r.direction = .incoming ∧ r.service.toNat = n then
              match r.phase with
              | .offered => r.atEnd .withdrawn none
              | .opened | .draining =>
                Record.atEnd { r with owed := r.owed.put .close true } .withdrawn none
              | _ => r
            else r)))

/-- 02, R37 to R40 (with R17 and R18): the six checks of a request in their order, the REFUSE of the first
that fails, and the record of an admitted request. -/
def Obligations.RequestsAreJudgedBySixChecks : Prop :=
  ∀ (s : State) (l : LinkNo) (hdr : Header) (service quota : Byte),
    let refused := fun (reason : Byte) =>
      s.answer l (.refuse ⟨hdr.src, hdr.srcGen, 255, 0⟩ reason)
    ((∀ x ∈ s.services, x.number ≠ service) → s.requestOpen l hdr service quota = refused 1)
    ∧ ∀ e : Service, s.services.find? (fun x => decide (x.number = service)) = some e →
      (e.linkMask.getLsbD l.val = false → s.requestOpen l hdr service quota = refused 2)
      ∧ (e.linkMask.getLsbD l.val = true → e.listening = false →
        s.requestOpen l hdr service quota = refused 3)
      ∧ (e.linkMask.getLsbD l.val = true → e.listening = true → e.limit ≤ e.active →
        s.requestOpen l hdr service quota = refused 3)
      ∧ (e.linkMask.getLsbD l.val = true → e.listening = true → e.active < e.limit →
        (∀ c, s.record c ≠ none) → s.requestOpen l hdr service quota = refused 4)
      ∧ (e.linkMask.getLsbD l.val = true → e.listening = true → e.active < e.limit →
        (∃ c, s.record c = none) → 512 < s.reservationTotal + e.quota →
        s.requestOpen l hdr service quota = refused 5)
      ∧ (e.linkMask.getLsbD l.val = true → e.listening = true → e.active < e.limit →
        ∀ c, s.record c = none → (∀ d, d < c → s.record d ≠ none) →
        s.reservationTotal + e.quota ≤ 512 →
        let r : Record :=
          { phase := if e.mode = .auto then .opened else .offered
            direction := .incoming
            link := l
            service := e.number
            peer := some { circuit := hdr.src, generation := hdr.srcGen }
            tag := e.tag
            priority := e.priority
            quota := e.quota
            threshold := e.threshold
            rxQueue := []
            expected := 0
            received := 0
            advertised := wordOf e.quota
            depth := e.depth
            txQueue := []
            nextSeq := 0
            sent := 0
            creditLimit := quota.setWidth 16
            roomWanted := false
            owed := { }
            retryCount := 0
            retryTimer := none
            holdTimer := if e.mode = .auto then none else some (s.settings.answerHold * 100)
            askTimer := none }
        let admitted : State :=
          { s with
            circuits := s.circuits.set c
              { generation := (s.circuit c).generation + 1, record := some r }
            reservationTotal := s.reservationTotal + e.quota
            services := s.services.map fun x =>
              if x.number = e.number then { x with active := x.active + 1 } else x }
        s.requestOpen l hdr service quota =
          if e.mode = .auto then (admitted.owe c .accept).postCircuit c .opened
          else admitted.postCircuit c .offered)

/-- 02, R34 to R36: an OPEN frame on an UP link by what the search of its source finds: it is dropped,
judged as a new request, taken as a repetition, or it supersedes the circuit that holds its peer number. -/
def Obligations.OpenFrameIsSearchedByItsSource : Prop :=
  ∀ (s t : State) (l : LinkNo) (hdr : Header) (service quota : Byte),
    s.hears l .up (.openRequest hdr service quota) = some t →
    let u := t.heard l
    let holds := fun (c : CircuitNo) =>
      ∃ r ∈ t.record c, r.link = l ∧ r.phase.counted = true ∧ ∃ p ∈ r.peer, p.circuit = hdr.src
    (63 < hdr.src.toNat →
      exec (.openFrame l hdr service quota) s = .next (State.finishClaim t u l))
    ∧ (hdr.src.toNat ≤ 63 → (∀ c, ¬ holds c) →
      exec (.openFrame l hdr service quota) s
        = .next (State.finishClaim t (u.requestOpen l hdr service quota) l))
    ∧ ∀ (c : CircuitNo) (r : Record) (p : Peer),
      hdr.src.toNat ≤ 63 → holds c → (∀ d, d < c → ¬ holds d) →
      t.record c = some r → r.peer = some p →
      (p.generation = hdr.srcGen → r.direction = .incoming → r.phase = .opened →
        exec (.openFrame l hdr service quota) s
          = .next (State.finishClaim t (u.owe c .accept) l))
      ∧ (p.generation = hdr.srcGen → (r.direction = .outgoing ∨ r.phase ≠ .opened) →
        exec (.openFrame l hdr service quota) s = .next (State.finishClaim t u l))
      ∧ (p.generation ≠ hdr.srcGen →
        exec (.openFrame l hdr service quota) s = .next
          (State.finishClaim t
            (((u.owe c .close).endCircuit c .superseded none).requestOpen l hdr service quota) l))

/-- 02, R43: CIRCUIT-ANSWER opens an offered circuit, or changes nothing. -/
def Obligations.CircuitAnswerOpensAnOffer : Prop :=
  ∀ (s : State) (cmd : Command) (c : CircuitNo) (r : Record),
    s.completes .circuitAnswer cmd → s.names cmd c r →
    (r.phase ≠ .offered → exec .circuitAnswer s = .next (s.settled cmd 4))
    ∧ (r.phase = .offered → 1 < cmd.args[1].toNat →
      exec .circuitAnswer s = .next (s.settled cmd 2))
    ∧ (r.phase = .offered → cmd.args[1].toNat ≤ 1 →
      let tag := if cmd.args[1] = 1 then cmd.args[2] else r.tag
      let opened := { r with phase := .opened, tag := tag, holdTimer := none }
      exec .circuitAnswer s = .next
        { (State.finishClaim s ((s.setRecord c (some opened)).owe c .accept) r.link).settled cmd 0 with
          args := (s.args.set 1 ((s.circuit c).generation.setWidth 16)).set 2 tag })

/-- 02, R44 and R45, 03, R64: an offer is refused by CIRCUIT-REFUSE, by CIRCUIT-ABORT and by the expiry of
its hold timer: the REFUSE item, the active count, and the record FREE with its notices removed. A record in
any other state is not refused: CIRCUIT-REFUSE completes WRONG-STATE. -/
def Obligations.OffersAreRefusedToFree : Prop :=
  (∀ (s : State) (cmd : Command) (c : CircuitNo) (r : Record),
    s.completes .circuitRefuse cmd → s.names cmd c r → r.phase ≠ .offered →
    exec .circuitRefuse s = .next (s.settled cmd 4))
  ∧ ∀ (s : State) (cmd : Command) (c : CircuitNo) (r : Record) (p : Peer),
    s.held = false → s.record c = some r → r.phase = .offered → r.direction = .incoming →
    r.peer = some p →
    let refused := fun (reason : Byte) =>
      let t := s.answer r.link (.refuse ⟨p.circuit, p.generation, 255, 0⟩ reason)
      { t with
        services := s.services.map fun e =>
          if e.number = r.service then { e with active := e.active - 1 } else e
        circuits := s.circuits.set c { generation := (s.circuit c).generation, record := none }
        links := t.links.set r.link
          { t.link r.link with
            controlList := (s.link r.link).controlList.filter fun d => d ≠ c }
        circuitNotices := s.circuitNotices.set c { }
        noticeList := s.noticeList.filter fun x => x ≠ .circuit c
        cellsHeld := s.cellsHeld - r.rxQueue.length
        reservationTotal := s.reservationTotal - r.quota }
    let declined :=
      { (State.finishClaim s (refused 6) r.link).settled cmd 0 with
        args := s.args.set 1 ((s.circuit c).generation.setWidth 16) }
    (s.completes .circuitRefuse cmd → cmd.args[0].toNat = c.val →
      exec .circuitRefuse s = .next declined)
    ∧ (s.completes .circuitAbort cmd → cmd.args[0].toNat = c.val →
      exec .circuitAbort s = .next declined)
    ∧ (r.holdTimer ≠ none →
      exec (.holdTimerExpiry c) s = .next (State.finishClaim s (refused 7) r.link))

/-! ### Calls, closes and endings (chapter 3) -/

/-- 03, R48 (with R17 and R18): CIRCUIT-CALL allocates the lowest FREE record, or changes nothing. -/
def Obligations.CircuitCallAllocatesACallingRecord : Prop :=
  ∀ (s : State) (cmd : Command), s.completes .circuitCall cmd →
    let a := cmd.args
    let inRange :=
      a[0].toNat ≤ 3 ∧ (1 ≤ a[1].toNat ∧ a[1].toNat ≤ 255) ∧ (1 ≤ a[2].toNat ∧ a[2].toNat ≤ 64)
        ∧ (1 ≤ a[3].toNat ∧ a[3].toNat ≤ a[2].toNat) ∧ a[4].toNat ≤ 3
        ∧ (1 ≤ a[5].toNat ∧ a[5].toNat ≤ 32)
    (¬ inRange → exec .circuitCall s = .next (s.settled cmd 2))
    ∧ ∀ (l : LinkNo) (priority : Fin 4),
      inRange → a[0].toNat = l.val → a[4].toNat = priority.val →
      ((s.link l).state ≠ .up → exec .circuitCall s = .next (s.settled cmd 5))
      ∧ ((s.link l).state = .up → (∀ c, s.record c ≠ none) →
        exec .circuitCall s = .next (s.settled cmd 6))
      ∧ ((s.link l).state = .up → (∃ c, s.record c = none) →
        512 < s.reservationTotal + a[2].toNat → exec .circuitCall s = .next (s.settled cmd 7))
      ∧ ∀ c, (s.link l).state = .up → s.record c = none → (∀ d, d < c → s.record d ≠ none) →
        s.reservationTotal + a[2].toNat ≤ 512 →
        let r : Record :=
          { phase := .calling
            direction := .outgoing
            link := l
            service := loByte a[1]
            peer := none
            tag := a[6]
            priority := priority
            quota := a[2].toNat
            threshold := a[3].toNat
            rxQueue := []
            expected := 0
            received := 0
            advertised := a[2]
            depth := a[5].toNat
            txQueue := []
            nextSeq := 0
            sent := 0
            creditLimit := 0
            roomWanted := false
            owed := { }
            retryCount := 0
            retryTimer := none
            holdTimer := none
            askTimer := none }
        let allocated : State :=
          { s with
            circuits := s.circuits.set c
              { generation := (s.circuit c).generation + 1, record := some r }
            reservationTotal := s.reservationTotal + a[2].toNat }
        exec .circuitCall s = .next
          { (State.finishClaim s (allocated.owe c .openRequest) l).settled cmd 0 with
            args := (s.args.set 0 (wordOf c.val)).set 1
              (((s.circuit c).generation + 1).setWidth 16) }

/-- 03, R56 and R64: CIRCUIT-CLOSE and CIRCUIT-ABORT by the state of the record (the abort of an offer is in
`OffersAreRefusedToFree`). -/
def Obligations.CircuitCloseAndAbortByState : Prop :=
  ∀ (s : State) (cmd : Command) (c : CircuitNo) (r : Record), s.names cmd c r →
    (s.completes .circuitClose cmd →
      (r.phase ≠ .opened → exec .circuitClose s = .next (s.settled cmd 4))
      ∧ (r.phase = .opened → r.txQueue ≠ [] →
        exec .circuitClose s = .next
          { (s.setRecord c (some { r with phase := .draining })).settled cmd 0 with
            args := (s.args.set 1 4).set 2 (wordOf r.txQueue.length) })
      ∧ (r.phase = .opened → r.txQueue = [] →
        let closing := { r with phase := .closing .normal, retryCount := 0 }
        exec .circuitClose s = .next
          { (State.finishClaim s ((s.setRecord c (some closing)).owe c .close) r.link).settled
              cmd 0 with
            args := (s.args.set 1 5).set 2 0 }))
    ∧ (s.completes .circuitAbort cmd →
      let discarded := s.args.set 1 (wordOf r.txQueue.length)
      (r.phase.live = false → exec .circuitAbort s = .next (s.settled cmd 4))
      ∧ (r.phase = .calling →
        exec .circuitAbort s = .next
          { (State.finishClaim s (s.endCircuit c .localAbort none) r.link).settled cmd 0 with
            args := discarded })
      ∧ (r.phase.carriesData = true →
        exec .circuitAbort s = .next
          { (State.finishClaim s ((s.owe c .close).endCircuit c .localAbort none) r.link).settled
              cmd 0 with
            args := discarded }))

/-- 03, R50 and R52 (with R14, R26, R89, R135 and R153): the opening of a CALLING circuit: the record takes
the peer and the first credit limit, every other circuit of the link that holds the peer number ends
SUPERSEDED with CLOSE owed, no other record is touched, and OPENED is posted after the ENDED notices. `u`
is the part just before that last posting: the ENDED notices in rising circuit number, the transmit cells
returned, the active counts lowered, and the control list of the link, which the superseded circuits that
owed nothing join in rising number (their order there is log entry 28). -/
def Obligations.OpeningTakesThePeerAndSupersedes : Prop :=
  ∀ (s : State) (c : CircuitNo) (r : Record) (peer : Peer) (limit : Word),
    s.record c = some r → r.phase = .calling →
    let blocked := r.txQueue ≠ [] ∧ limit = r.sent
    let superseded := fun (d : CircuitNo) (p : Record → Bool) =>
      decide (d ≠ c) && (s.record d).any fun q =>
        decide (q.link = r.link) && q.phase.counted
          && (q.peer.any fun x => decide (x.circuit = peer.circuit)) && p q
    let left := r.owed.put .openRequest false
    let own := (s.link r.link).controlList
    ∃ u : State, s.openCall c peer limit = u.postCircuit c .opened
      ∧ u = { s with
        circuits := u.circuits
        services := s.services.map fun e =>
          { e with
            active := e.active - allCircuits.countP fun d =>
              superseded d fun q => decide (q.direction = .incoming ∧ q.service = e.number) }
        txFree := s.txFree + (allCircuits.map fun d =>
          if superseded d fun _ => true then ((s.record d).map fun q => q.txQueue.length).getD 0
          else 0).sum
        links := s.links.set r.link
          { s.link r.link with
            controlList :=
              (if left.isEmpty = true then own.filter fun d => d ≠ c else own)
                ++ if (s.link r.link).state = .up then
                    allCircuits.filter fun d => superseded d fun q => q.owed.isEmpty
                  else [] }
        circuitNotices := u.circuitNotices
        noticeList := s.noticeList ++
          (allCircuits.filter fun d =>
            (superseded d fun _ => true) && s.circuitNotices[d].isEmpty).map Source.circuit }
      ∧ (∀ d : CircuitNo, u.circuitNotices[d] =
        if superseded d (fun _ => true) = true then { s.circuitNotices[d] with ended := true }
        else s.circuitNotices[d])
      ∧ u.record c = some
        { r with
          phase := .opened
          peer := some peer
          creditLimit := limit
          retryTimer := none
          retryCount := 0
          owed := left
          askTimer := if blocked then some (s.settings.ask * 10) else none }
      ∧ (∀ d q, d ≠ c → s.record d = some q →
        u.record d = some (
          if q.link = r.link ∧ q.phase.counted = true ∧ (∃ p ∈ q.peer, p.circuit = peer.circuit) then
            Record.atEnd { q with owed := q.owed.put .close true } .superseded none
          else q))
      ∧ (∀ d, s.record d = none → u.record d = none)
      ∧ ∀ d, (u.circuit d).generation = (s.circuit d).generation

/-- 06, R133: which record a circuit frame matches; and 03, R69 and R71: the two answers to a frame that no
record is willing to take. -/
def Obligations.FramesMatchByAddressGenerationAndPeer : Prop :=
  ∀ (s : State) (l : LinkNo) (hdr : Header),
    (∀ (c : CircuitNo) (r : Record), s.matched l hdr = some (c, r) ↔
      hdr.dst.toNat = c.val ∧ s.record c = some r ∧ r.link = l
        ∧ (s.circuit c).generation = hdr.dstGen
        ∧ ∀ p ∈ r.peer, p.circuit = hdr.src ∧ p.generation = hdr.srcGen)
    ∧ (63 < hdr.src.toNat → s.answerStray l hdr = s ∧ s.answerClosed l hdr = s)
    ∧ (hdr.src.toNat ≤ 63 →
      s.answerStray l hdr = s.answer l (.close ⟨hdr.src, hdr.srcGen, hdr.dst, hdr.dstGen⟩ 5)
      ∧ s.answerClosed l hdr = s.answer l (.closed ⟨hdr.src, hdr.srcGen, hdr.dst, hdr.dstGen⟩))

/-- 03, R50, R55, R68 to R70: an ACCEPT frame on an UP link, by the record it matches. -/
def Obligations.AcceptFrameByTheMatchedRecord : Prop :=
  ∀ (s t : State) (l : LinkNo) (hdr : Header) (quota : Byte),
    s.hears l .up (.accept hdr quota) = some t →
    let u := t.heard l
    let stray := Host.Outcome.next (State.finishClaim t (u.answerStray l hdr) l)
    (t.matched l hdr = none → exec (.acceptFrame l hdr quota) s = stray)
    ∧ ∀ (c : CircuitNo) (r : Record), t.matched l hdr = some (c, r) →
      (r.phase = .calling → 63 < hdr.src.toNat →
        exec (.acceptFrame l hdr quota) s = .next (State.finishClaim t u l))
      ∧ (r.phase = .calling → hdr.src.toNat ≤ 63 →
        exec (.acceptFrame l hdr quota) s = .next
          (State.finishClaim t
            (u.openCall c { circuit := hdr.src, generation := hdr.srcGen } (quota.setWidth 16)) l))
      ∧ (r.phase.carriesData = true → r.direction = .outgoing →
        exec (.acceptFrame l hdr quota) s = .next
          (State.finishClaim t
            (u.setRecord c (some (r.offerLimit t.settings.askMs (quota.setWidth 16)))) l))
      ∧ (r.phase.carriesData = true → r.direction = .incoming →
        exec (.acceptFrame l hdr quota) s = stray)
      ∧ ((r.phase = .offered ∨ r.phase.live = false) → exec (.acceptFrame l hdr quota) s = stray)

/-- 03, R53, R54, R59, R60, R62, R68 to R70 and R72: REFUSE, CLOSED and CLOSE frames on an UP link, by the
record they match. A CLOSING circuit ends with the end cause of its close reason (R59). -/
def Obligations.RefuseCloseAndClosedFrames : Prop :=
  ∀ (s t : State) (l : LinkNo) (hdr : Header) (reason : Byte),
    let u := t.heard l
    let done := fun (v : State) => Host.Outcome.next (State.finishClaim t v l)
    let causeOf := fun (x : CloseReason) =>
      match x with
      | .normal => EndCause.localClose
      | .loss => EndCause.sequenceLoss
      | .violation => EndCause.creditViolation
    (s.hears l .up (.refuse hdr reason) = some t →
      ((∀ c r, t.matched l hdr = some (c, r) → r.phase ≠ .calling) →
        exec (.refuseFrame l hdr reason) s = done u)
      ∧ ∀ c r, t.matched l hdr = some (c, r) → r.phase = .calling →
        exec (.refuseFrame l hdr reason) s = done (u.endCircuit c .refused (some reason)))
    ∧ (s.hears l .up (.closed hdr) = some t →
      ((∀ c r x, t.matched l hdr = some (c, r) → r.phase ≠ .closing x) →
        exec (.closedFrame l hdr) s = done u)
      ∧ ∀ c r x, t.matched l hdr = some (c, r) → r.phase = .closing x →
        exec (.closedFrame l hdr) s = done ((u.disown c .close).endCircuit c (causeOf x) none))
    ∧ (s.hears l .up (.close hdr reason) = some t →
      (t.matched l hdr = none → exec (.closeFrame l hdr reason) s = done (u.answerClosed l hdr))
      ∧ ∀ c r, t.matched l hdr = some (c, r) →
        (r.phase = .calling → 63 < hdr.src.toNat → exec (.closeFrame l hdr reason) s = done u)
        ∧ (r.phase = .calling → hdr.src.toNat ≤ 63 →
          exec (.closeFrame l hdr reason) s
            = done ((u.endCircuit c .peerClose (some reason)).answerClosed l hdr))
        ∧ (r.phase = .offered → exec (.closeFrame l hdr reason) s = done (u.answerClosed l hdr))
        ∧ (r.phase.sendsData = true →
          exec (.closeFrame l hdr reason) s
            = done ((u.owe c .closed).endCircuit c .peerClose (some reason)))
        ∧ (∀ x, r.phase = .closing x →
          exec (.closeFrame l hdr reason) s
            = done (((u.owe c .closed).disown c .close).endCircuit c (causeOf x) none))
        ∧ (r.phase.live = false → r.peer ≠ none →
          exec (.closeFrame l hdr reason) s = done (u.owe c .closed))
        ∧ (r.phase.live = false → r.peer = none →
          exec (.closeFrame l hdr reason) s = done (u.answerClosed l hdr)))

/-- 03, R49 and R58, 04, R90, 06, R123 and R128, 09, R172: the expiry of a running retry, ask, HELLO or dead
timer: a retransmission, an end, an ASK, a HELLO, or the end of the link, after which it seeks afresh (what
a link end does is `LinkEndAndDeadTimerExpiry`). A timer that is stopped does not expire (R11, R121). -/
def Obligations.RetryAskAndHelloTimersExpire : Prop :=
  ∀ s : State, s.held = false →
    (∀ (c : CircuitNo) (r : Record), s.record c = some r → r.retryTimer ≠ none →
      let again := { r with retryCount := r.retryCount + 1, retryTimer := none }
      (r.phase = .calling → r.retryCount < s.settings.retryLimit →
        exec (.retryTimerExpiry c) s = .next
          (State.finishClaim s ((s.setRecord c (some again)).owe c .openRequest) r.link))
      ∧ (r.phase = .calling → s.settings.retryLimit ≤ r.retryCount →
        exec (.retryTimerExpiry c) s = .next
          (State.finishClaim s (s.endCircuit c .noAnswer none) r.link))
      ∧ (∀ x, r.phase = .closing x → r.retryCount < s.settings.retryLimit →
        exec (.retryTimerExpiry c) s = .next
          (State.finishClaim s ((s.setRecord c (some again)).owe c .close) r.link))
      ∧ (∀ x, r.phase = .closing x → s.settings.retryLimit ≤ r.retryCount →
        exec (.retryTimerExpiry c) s = .next
          (State.finishClaim s (s.endCircuit c .closeTimeout none) r.link)))
    ∧ (∀ (c : CircuitNo) (r : Record), s.record c = some r → r.askTimer ≠ none →
      r.phase.sendsData = true →
      exec (.askTimerExpiry c) s = .next
        (State.finishClaim s
          ((s.setRecord c (some { r with askTimer := some (s.settings.ask * 10) })).owe c .ask)
          r.link))
    ∧ (∀ l : LinkNo, (s.link l).helloTimer ≠ none → (s.link l).state ≠ .stopped →
      exec (.helloTimerExpiry l) s = .next
        (State.finishClaim s
          (s.setLink l
            { s.link l with
              helloDue := true
              helloTimer :=
                if (s.link l).state = .seeking then some (s.settings.hello * 10) else none })
          l))
    ∧ (∀ l : LinkNo, (s.link l).deadTimer ≠ none → (s.link l).state = .up →
      exec (.deadTimerExpiry l) s = .next
        (State.finishClaim s
          ((s.endLink l .linkLost).onLink l fun y =>
            { y with
              state := .seeking
              ownEpoch := if y.ownEpoch = 65535 then 1 else y.ownEpoch + 1
              peerEpoch := 0
              helloDue := true
              helloTimer := some (s.settings.hello * 10)
              deadTimer := none })
          l))
    ∧ (∀ (c : CircuitNo) (r : Record), s.record c = some r →
      (r.retryTimer = none → exec (.retryTimerExpiry c) s = .next s)
      ∧ (r.askTimer = none → exec (.askTimerExpiry c) s = .next s)
      ∧ (r.holdTimer = none → exec (.holdTimerExpiry c) s = .next s))
    ∧ ∀ l : LinkNo, ((s.link l).helloTimer = none → exec (.helloTimerExpiry l) s = .next s)
      ∧ ((s.link l).deadTimer = none → exec (.deadTimerExpiry l) s = .next s)

/-! ### Credit (chapter 4) -/

/-- 04, R80 to R83, 03, R51 and R66 to R71: a DATA frame on an UP link: stray, an implied acceptance, dropped,
a violation, a gap, or accepted. -/
def Obligations.DataFrameIsCheckedThenAccepted : Prop :=
  ∀ (s t : State) (l : LinkNo) (hdr : Header) (sequence : Byte) (payload : List Byte),
    1 ≤ payload.length → payload.length ≤ 32 →
    s.hears l .up (.data hdr sequence payload) = some t →
    let u := t.heard l
    let done := fun (v : State) => Host.Outcome.next (State.finishClaim t v l)
    let answer := exec (.dataFrame l hdr sequence payload) s
    (t.matched l hdr = none → answer = done (u.answerStray l hdr))
    ∧ ∀ (c : CircuitNo) (r : Record), t.matched l hdr = some (c, r) →
      ((r.phase = .offered ∨ r.phase.live = false) → answer = done (u.answerStray l hdr))
      ∧ (r.phase = .calling → 63 < hdr.src.toNat → answer = done u)
      ∧ (r.phase = .calling → hdr.src.toNat ≤ 63 →
        answer = done
          ((u.openCall c { circuit := hdr.src, generation := hdr.srcGen } 0).dataOn c sequence
            payload))
      ∧ ((r.phase = .closing .loss ∨ r.phase = .closing .violation) → answer = done u)
      ∧ ((r.phase.sendsData = true ∨ r.phase = .closing .normal) →
        (r.received = r.advertised → answer = done (u.forceClose c .violation))
        ∧ (r.received ≠ r.advertised → sequence ≠ r.expected →
          answer = done (u.forceClose c .loss))
        ∧ (r.received ≠ r.advertised → sequence = r.expected →
          let v := u.setRecord c (some
            { r with
              rxQueue := r.rxQueue ++ [{ sequence := sequence, payload := payload }]
              received := r.received + 1
              expected := r.expected + 1 })
          let v := { v with cellsHeld := s.cellsHeld + 1 }
          answer = done (if r.rxQueue = [] then v.postCircuit c .data else v)))

/-- 04, R87 and R88, 03, R51, R69 and R70: GRANT and ASK frames on an UP link; a GRANT's limit is taken
under the forward-only rule of R78. -/
def Obligations.GrantAndAskFrames : Prop :=
  ∀ (s t : State) (l : LinkNo) (hdr : Header) (limit : Word),
    let u := t.heard l
    let done := fun (v : State) => Host.Outcome.next (State.finishClaim t v l)
    let opened := fun (c : CircuitNo) =>
      u.openCall c { circuit := hdr.src, generation := hdr.srcGen } 0
    (s.hears l .up (.grant hdr limit) = some t →
      (t.matched l hdr = none → exec (.grantFrame l hdr limit) s = done (u.answerStray l hdr))
      ∧ ∀ c r, t.matched l hdr = some (c, r) →
        ((r.phase = .offered ∨ r.phase.live = false) →
          exec (.grantFrame l hdr limit) s = done (u.answerStray l hdr))
        ∧ (r.phase = .calling → 63 < hdr.src.toNat →
          exec (.grantFrame l hdr limit) s = done u)
        ∧ (r.phase = .calling → hdr.src.toNat ≤ 63 → ∀ q, (opened c).record c = some q →
          exec (.grantFrame l hdr limit) s
            = done ((opened c).setRecord c (some (q.offerLimit t.settings.askMs limit))))
        ∧ (r.phase.carriesData = true →
          exec (.grantFrame l hdr limit) s
            = done (u.setRecord c (some (r.offerLimit t.settings.askMs limit)))))
    ∧ (s.hears l .up (.ask hdr) = some t →
      (t.matched l hdr = none → exec (.askFrame l hdr) s = done (u.answerStray l hdr))
      ∧ ∀ c r, t.matched l hdr = some (c, r) →
        ((r.phase = .offered ∨ r.phase.live = false) →
          exec (.askFrame l hdr) s = done (u.answerStray l hdr))
        ∧ (r.phase = .calling → 63 < hdr.src.toNat → exec (.askFrame l hdr) s = done u)
        ∧ (r.phase = .calling → hdr.src.toNat ≤ 63 →
          exec (.askFrame l hdr) s = done ((opened c).owe c .grant))
        ∧ (r.phase.carriesData = true → exec (.askFrame l hdr) s = done (u.owe c .grant)))
    ∧ ∀ r : Record,
      (1 ≤ (limit - r.creditLimit).toNat → (limit - r.creditLimit).toNat ≤ 32767 →
        r.offerLimit t.settings.askMs limit =
          { r with
            creditLimit := limit
            askTimer :=
              if r.phase.sendsData = true ∧ r.txQueue ≠ [] ∧ limit = r.sent then
                some t.settings.askMs
              else none })
      ∧ (¬ (1 ≤ (limit - r.creditLimit).toNat ∧ (limit - r.creditLimit).toNat ≤ 32767) →
        r.offerLimit t.settings.askMs limit = r)

/-- 04, R91 and R85: RECEIVE delivers the head of the receive queue and makes the grant comparison, or
changes nothing. -/
def Obligations.ReceiveDeliversTheOldestPayload : Prop :=
  ∀ (s : State) (cmd : Command) (c : CircuitNo) (r : Record),
    s.completes .receive cmd → s.names cmd c r →
    ((r.phase = .calling ∨ r.phase = .offered) → exec .receive s = .next (s.settled cmd 4))
    ∧ (r.phase ≠ .calling → r.phase ≠ .offered → r.rxQueue = [] →
      exec .receive s = .next (s.settled cmd 9))
    ∧ ∀ (item : RxItem) (rest : List RxItem),
      r.phase ≠ .calling → r.phase ≠ .offered → r.rxQueue = item :: rest →
      let lead := (r.received + wordOf r.quota - wordOf rest.length) - r.advertised
      let t := s.setRecord c (some { r with rxQueue := rest })
      let t := { t with cellsHeld := s.cellsHeld - 1 }
      let t :=
        if r.phase.carriesData = true ∧ r.threshold ≤ lead.toNat then t.owe c .grant else t
      exec .receive s = .next
        { (State.finishClaim s t r.link).settled cmd 0 with
          args := (((s.args.set 0 (wordOf c.val)).set 1 (wordOf item.payload.length)).set 2
            (item.sequence.setWidth 16)).set 3 (wordOf rest.length)
          data := Vector.ofFn fun k : Fin 16 =>
            pack (item.payload.getD (2 * k.val + 1) 0) (item.payload.getD (2 * k.val) 0) }

/-! ### The transmit side (chapter 5) -/

/-- 05, R97 (with R89): SEND queues a payload, or completes FULL and remembers that the circuit wants room,
or changes nothing. -/
def Obligations.SendQueuesAPayload : Prop :=
  ∀ (s : State) (cmd : Command) (c : CircuitNo) (r : Record),
    s.completes .send cmd → s.names cmd c r →
    let n := cmd.args[1].toNat
    let full := r.depth ≤ r.txQueue.length ∨ s.txFree = 0
    ((n = 0 ∨ 32 < n) → exec .send s = .next (s.settled cmd 2))
    ∧ (1 ≤ n → n ≤ 32 → r.phase ≠ .calling → r.phase ≠ .opened →
      exec .send s = .next (s.settled cmd 4))
    ∧ (1 ≤ n → n ≤ 32 → (r.phase = .calling ∨ r.phase = .opened) → full →
      exec .send s = .next
        { (s.setRecord c (some { r with roomWanted := true })).settled cmd 8 with
          args := (s.args.set 1 (wordOf r.txQueue.length)).set 2 (wordOf s.txFree) })
    ∧ (1 ≤ n → n ≤ 32 → (r.phase = .calling ∨ r.phase = .opened) → ¬ full →
      r.askTimer.isSome = r.blocked →
      let payload := ((List.finRange 32).map fun j =>
        if j.val % 2 = 0 then loByte (cmd.data[j.val / 2]'(by omega))
        else hiByte (cmd.data[j.val / 2]'(by omega))).take n
      let queued :=
        { r with
          txQueue := r.txQueue ++ [payload]
          askTimer :=
            if r.phase = .opened ∧ r.txQueue = [] ∧ r.creditLimit = r.sent then
              some (s.settings.ask * 10)
            else r.askTimer }
      let t := s.setRecord c (some queued)
      exec .send s = .next
        { (State.finishClaim s { t with txFree := s.txFree - 1 } r.link).settled cmd 0 with
          args := ((s.args.set 1 (wordOf (r.txQueue.length + 1))).set 2 (wordOf (s.txFree - 1))).set 3
            ((r.nextSeq + byteOf r.txQueue.length).setWidth 16) })

/-- 05, R109 and R123, 07, R139, R141, R144, R145 and R148: the end of a frame on the line, the end of a cut
delimiter with what the line transmitter does next, the return of an input to mark, and when the output
line is at mark, with the levels that the line transmitter puts out. That a completion event with nothing to
complete changes nothing is log entry 3; that a further cut delimiter may follow the first is log entry 12;
that the output counts as at mark, while the begun character of a cut frame is finished, only where both
configurations are looped is the model's choice, log entry 27. -/
def Obligations.LineEventsOfTheTransmitterAndReceiver : Prop :=
  ∀ (s : State) (l : LinkNo), s.held = false →
    (∀ f, (s.link l).onLine = some f → (s.link l).cutDelimiters = 0 →
      let t := s.setLink l { s.link l with onLine := none, transmitter := .idle }
      let t := match f with
        | .data _ _ _ => { t with txFree := s.txFree + 1 }
        | _ => t
      let u := State.finishClaim s t l
      exec (.transmissionCompletion l) s = .next
        (if (u.link l).state = .up ∧ (u.link l).onLine = none then
          u.setLink l { u.link l with helloTimer := some (s.settings.hello * 10) }
        else u))
    ∧ ((s.link l).onLine = none ∨ (s.link l).cutDelimiters ≠ 0 →
      exec (.transmissionCompletion l) s = .next s)
    ∧ ((s.link l).cutDelimiters = 0 → exec (.cutDelimiterCompletion l) s = .next s)
    ∧ (∀ n, (s.link l).cutDelimiters = n + 1 →
      exec (.cutDelimiterCompletion l) s = .next
        (s.setLink l
          { s.link l with
            cutDelimiters := n
            transmitter :=
              if n ≠ 0 then .sendingDelimiter (s.link l).config
              else if (s.link l).onLine = none then .idle
              else .sendingFrame (s.link l).config }))
    ∧ ((s.link l).receiver = .waiting →
      exec (.returnToMark l) s = .next (s.setLink l { s.link l with receiver := .ready }))
    ∧ ((s.link l).receiver ≠ .waiting → exec (.returnToMark l) s = .next s)
    ∧ (s.outputAtMark l = true ↔
      match (s.link l).transmitter with
      | .idle => True
      | .sendingFrame cfg => cfg.loopback = true
      | .finishing cfg => cfg.loopback = true ∧ (s.link l).config.loopback = true
      | .sendingDelimiter cfg => cfg.loopback = true)
    ∧ ((s.link l).transmitter = .idle → (s.link l).wave = some [])
    ∧ (∀ cfg f, (s.link l).transmitter = .sendingFrame cfg → (s.link l).onLine = some f →
      (s.link l).wave = some (cfg.wave (lineCharacters f)))
    ∧ (∀ cfg, (s.link l).transmitter = .sendingDelimiter cfg →
      (s.link l).wave = some (cfg.wave [0xF8]))

/-- 05, R101 and R102: at a frame boundary of a SEEKING or UP link with an IDLE transmitter, the first
source that has something is served, and nothing is started elsewhere. A claim that bears on every link
makes the boundaries of links 0, 1, 2 and 3 in turn, an order that is log entry 14. -/
def Obligations.SchedulerServesTheFirstSource : Prop :=
  (∀ s : State, s.boundaries = (((s.boundary 0).boundary 1).boundary 2).boundary 3)
  ∧ ∀ (s : State) (l : LinkNo),
    ((s.link l).state = .stopped → s.boundary l = s)
    ∧ ((s.link l).onLine ≠ none → s.boundary l = s)
    ∧ ((s.link l).state ≠ .stopped → (s.link l).onLine = none →
      ((s.link l).helloDue = true → s.boundary l = s.startHello l)
      ∧ ((s.link l).helloDue = false →
        (∀ c rest, (s.link l).controlList = c :: rest → s.boundary l = s.startControl l c rest)
        ∧ ((s.link l).controlList = [] →
          (∀ item rest, (s.link l).answerList = item :: rest →
            s.boundary l = s.startAnswer l item rest)
          ∧ ((s.link l).answerList = [] →
            (∀ p c, s.dataChoice l = some (p, c) → s.boundary l = s.startData l p c)
            ∧ (s.dataChoice l = none → s.boundary l = s)))))

/-- 05, R107: the DATA choice: the most urgent class that has an eligible circuit, and in it the first
eligible circuit after the last served, wrapping from 63 to 0; the class's last served becomes it, and every
other class keeps its own. -/
def Obligations.DataChoiceByClassAndRoundRobin : Prop :=
  ∀ (s : State) (l : LinkNo),
    let eligible := fun (c : CircuitNo) (p : Fin 4) =>
      ∃ r ∈ s.record c, r.link = l ∧ (r.phase = .opened ∨ r.phase = .draining) ∧ r.txQueue ≠ []
        ∧ (1 ≤ (r.creditLimit - r.sent).toNat ∧ (r.creditLimit - r.sent).toNat ≤ 32767)
        ∧ r.priority = p
    let distance := fun (c : CircuitNo) (p : Fin 4) =>
      (c.val + 63 - (s.link l).lastServed[p].val) % 64
    (∀ p c, s.dataChoice l = some (p, c) ↔
      eligible c p ∧ (∀ q, q < p → ∀ d, ¬ eligible d q)
        ∧ ∀ d, eligible d p → distance c p ≤ distance d p)
    ∧ (s.dataChoice l = none ↔ ∀ c p, ¬ eligible c p)
    ∧ ∀ p c, s.dataChoice l = some (p, c) →
      ((s.startData l p c).link l).lastServed = (s.link l).lastServed.set p c

/-- 05, R103 to R106 and R108, with R49, R57, R58, R61, R86 and R123: the start of each kind of frame: what
it carries, and what it does to its source and to the transmitters (07, R139, R141). That the start puts
all of the frame's characters on the internal path of a looped link at once (section 7.6) is the model's
choice, log entry 9. A CLOSE of a record that no rule lets owe one is left out (log entry 15). -/
def Obligations.FrameStartsCarryAndChangeTheirSource : Prop :=
  ∀ (s : State) (l : LinkNo),
    let onLine := fun (t : State) (f : Frame) =>
      t.setLink l
        { t.link l with
          onLine := some f
          helloTimer := if (t.link l).state = .up then none else (t.link l).helloTimer
          transmitter :=
            if (t.link l).cutDelimiters = 0 then .sendingFrame (t.link l).config
            else (t.link l).transmitter
          loopPath :=
            if (t.link l).config.loopback = true then (t.link l).loopPath ++ lineCharacters f
            else (t.link l).loopPath }
    (s.startHello l =
      onLine (s.setLink l { s.link l with helloDue := false })
        (.hello (s.link l).ownEpoch (s.link l).peerEpoch))
    ∧ (∀ hdr reason rest,
      s.startAnswer l (.refuse hdr reason) rest
        = onLine (s.setLink l { s.link l with answerList := rest }) (.refuse hdr reason)
      ∧ s.startAnswer l (.close hdr reason) rest
        = onLine (s.setLink l { s.link l with answerList := rest }) (.close hdr reason)
      ∧ s.startAnswer l (.closed hdr) rest
        = onLine (s.setLink l { s.link l with answerList := rest }) (.closed hdr))
    ∧ (∀ o : Owed, o.first = [.accept, .grant, .ask, .openRequest, .close, .closed].find? o.has)
    ∧ (∀ (c : CircuitNo) (rest : List CircuitNo) (r : Record) (p : Peer),
      s.record c = some r → r.peer = some p →
      let hdr : Header := ⟨p.circuit, p.generation, byteOf c.val, (s.circuit c).generation⟩
      let served := fun (k : ControlKind) (q : Record) (f : Frame) =>
        let left := r.owed.put k false
        onLine
          ((s.setRecord c (some { q with owed := left })).setLink l
            { s.link l with controlList := if left.isEmpty = true then rest else rest ++ [c] })
          f
      (r.owed.first = some .accept → s.startControl l c rest
        = served .accept r (.accept hdr (byteOf r.quota)))
      ∧ (r.owed.first = some .grant → s.startControl l c rest
        = served .grant { r with advertised := r.candidate } (.grant hdr r.candidate))
      ∧ (r.owed.first = some .ask → s.startControl l c rest = served .ask r (.ask hdr))
      ∧ (∀ x, r.owed.first = some .close → r.phase = .closing x → s.startControl l c rest
        = served .close { r with retryTimer := some (s.settings.retry * 10) } (.close hdr x.code))
      ∧ (∀ d n, r.owed.first = some .close →
        (r.phase = .ended .localAbort d n ∨ r.phase = .ended .withdrawn d n) →
        s.startControl l c rest = served .close r (.close hdr 2))
      ∧ (∀ d n, r.owed.first = some .close → r.phase = .ended .superseded d n →
        s.startControl l c rest = served .close r (.close hdr 6))
      ∧ (r.owed.first = some .closed → s.startControl l c rest = served .closed r (.closed hdr)))
    ∧ (∀ (c : CircuitNo) (rest : List CircuitNo) (r : Record),
      s.record c = some r → r.owed.first = some .openRequest →
      let left := r.owed.put .openRequest false
      s.startControl l c rest =
        onLine
          ((s.setRecord c (some
            { r with owed := left, retryTimer := some (s.settings.retry * 10) })).setLink l
            { s.link l with controlList := if left.isEmpty = true then rest else rest ++ [c] })
          (.openRequest ⟨255, 0, byteOf c.val, (s.circuit c).generation⟩ r.service (byteOf r.quota)))
    ∧ (∀ (c : CircuitNo) (p : Fin 4) (r : Record) (peer : Peer) (payload : List Byte)
        (rest : List (List Byte)),
      s.record c = some r → r.peer = some peer → r.txQueue = payload :: rest →
      r.phase.sendsData = true → r.creditLimit ≠ r.sent →
      let sent :=
        { r with
          txQueue := rest
          nextSeq := r.nextSeq + 1
          sent := r.sent + 1
          askTimer :=
            if rest ≠ [] ∧ r.creditLimit = r.sent + 1 then some (s.settings.ask * 10) else none }
      let t := (s.setRecord c (some sent)).setLink l
        { s.link l with lastServed := (s.link l).lastServed.set p c }
      let t :=
        if r.phase = .draining ∧ rest = [] then
          (t.setRecord c (some { sent with phase := .closing .normal, retryCount := 0 })).owe c
            .close
        else t
      s.startData l p c =
        onLine t (.data ⟨peer.circuit, peer.generation, byteOf c.val, (s.circuit c).generation⟩
          r.nextSeq payload))

/-- 05, R99 and 08, R153: the ROOM rule over the whole table. That a claim ends with the ROOM notices and then
one frame boundary of its link is log entry 14, deduced from R101, R109 and R153. -/
def Obligations.RoomRuleOverTheTable : Prop :=
  (∀ s : State,
    let wants := fun (c : CircuitNo) =>
      (s.record c).any fun r => r.roomWanted && decide (r.txQueue.length < r.depth)
    let t := s.roomNotices
    t = { s with
      circuits := t.circuits, circuitNotices := t.circuitNotices, noticeList := t.noticeList }
    ∧ (∀ c, t.circuit c =
      { generation := (s.circuit c).generation
        record := (s.record c).map fun r =>
          if wants c = true then { r with roomWanted := false } else r })
    ∧ (∀ c : CircuitNo, t.circuitNotices[c] =
      if wants c = true then { s.circuitNotices[c] with room := true } else s.circuitNotices[c])
    ∧ t.noticeList = s.noticeList ++
      (allCircuits.filter fun c => wants c && s.circuitNotices[c].isEmpty).map Source.circuit)
  ∧ ∀ (before after : State) (l : LinkNo),
    State.finishClaim before after l =
      (if before.txFree < after.txFree then after.roomNotices else after).boundary l

/-! ### Links, lines and notices (chapters 6 to 8) -/

/-- 07, R142 to R144 and R149, 06, R119, R121 and R136: LINK-CONFIGURE sets all five settings of a STOPPED
link, the receiver watches its input afresh, what is being sent finishes as it began, and the cut
delimiters not yet begun go to the internal path where loopback comes to be set; LINK-QUERY returns the
link record and the configuration, with these codes. With loopback left on, the characters that have begun
on the internal path are abandoned. That writing the configuration a link holds leaves its receiver alone is
log entry 24, that the event says whether a cut delimiter has begun is log entry 27, and that it gives the
level of the internal path is log entry 29. -/
def Obligations.LinkConfigureAndQuery : Prop :=
  (∀ x : LinkState, x.code =
    match x with
    | .stopped => 0
    | .seeking => 1
    | .up => 2)
  ∧ (∀ x : FaultCause, x.code =
    match x with
    | .none => 0
    | .parity => 1
    | .framing => 2
    | .breakCondition => 3
    | .badEscape => 4
    | .oversize => 5
    | .badLength => 6
    | .unknownKind => 7
    | .crc => 8)
  ∧ ∀ (s : State) (cmd : Command) (rxd path : LineLevel) (begun : Bool),
    let w1 := cmd.args[1]
    let w2 := cmd.args[2].toNat
    let d := 32 * w1.toNat + w2 / 256
    let inRange := w1 ≠ 0 ∧ w2 / 256 ≤ 31 ∧ w2 % 4 ≠ 3 ∧ w2 / 16 % 16 = 0
    (s.completes .linkConfigure cmd →
      (3 < cmd.args[0].toNat → exec (.linkConfigure ⟨rxd, path, begun⟩) s = .next (s.settled cmd 2))
      ∧ ∀ l : LinkNo, cmd.args[0].toNat = l.val →
        ((s.link l).state ≠ .stopped → exec (.linkConfigure ⟨rxd, path, begun⟩) s = .next (s.settled cmd 4))
        ∧ ((s.link l).state = .stopped → ¬ inRange →
          exec (.linkConfigure ⟨rxd, path, begun⟩) s = .next (s.settled cmd 2))
        ∧ ((s.link l).state = .stopped → inRange →
          ∃ cfg : LineConfig,
            cfg.divisor = w1 ∧ cfg.fraction.toNat = w2 / 256
            ∧ (cfg.parity = if w2 % 4 = 0 then .none else if w2 % 4 = 1 then .even else .odd)
            ∧ (cfg.stopBits = if w2 / 4 % 2 = 1 then .two else .one)
            ∧ cfg.loopback = decide (w2 / 8 % 2 = 1)
            ∧ ∃ rate : Nat,
              2 * rate * d ≤ 4 * 18432000 + d ∧ 4 * 18432000 < 2 * rate * d + d
              ∧ let sending :=
                  match (s.link l).transmitter with
                  | .finishing old =>
                    if begun = true then .sendingDelimiter (s.link l).config else .finishing old
                  | x => x
                let notBegun :=
                  match sending with
                  | .finishing _ => (s.link l).cutDelimiters
                  | .sendingDelimiter _ => (s.link l).cutDelimiters - 1
                  | _ => 0
                let inside :=
                  match sending with
                  | .idle => false
                  | .sendingFrame c => c.loopback
                  | .finishing c => c.loopback
                  | .sendingDelimiter c => c.loopback
                let atMark :=
                  if cfg.loopback = true then inside = true → path = .mark else rxd = .mark
                exec (.linkConfigure ⟨rxd, path, begun⟩) s = .next
                { s.settled cmd 0 with
                  args := (((s.args.set 1 cmd.args[1]).set 2 cmd.args[2]).set 3
                    (wordOf (rate / 65536))).set 4 (wordOf (rate % 65536))
                  links := s.links.set l
                    (if (s.link l).config = cfg then s.link l
                    else
                      { s.link l with
                        config := cfg
                        transmitter := sending
                        receiver := if atMark then .ready else .waiting
                        loopPath :=
                          if cfg.loopback = false then []
                          else if (s.link l).config.loopback = true then
                            (s.link l).loopPath.drop ((s.link l).loopPath.length - notBegun)
                          else List.replicate notBegun 0xF8 }) }))
    ∧ (s.completes .linkQuery cmd →
      (3 < cmd.args[0].toNat → exec .linkQuery s = .next (s.settled cmd 2))
      ∧ ∀ l : LinkNo, cmd.args[0].toNat = l.val →
        exec .linkQuery s = .next
          { s.settled cmd 0 with
            args := #v[
              wordOf l.val,
              pack
                (match (s.link l).state with
                  | .stopped => 0
                  | .seeking => 1
                  | .up => 2)
                (if (s.link l).onLine = none then 0 else 1),
              (s.link l).ownEpoch,
              (s.link l).peerEpoch,
              pack
                (match (s.link l).lastDown with
                  | none => 0
                  | some .linkStopped => 12
                  | some .linkLost => 13
                  | some .peerRestart => 14)
                (byteOf (s.link l).lastFault.code),
              pack (byteOf (s.link l).controlList.length) (byteOf (s.link l).answerList.length),
              (s.link l).config.divisor,
              wordOf (256 * (s.link l).config.fraction.toNat
                + (if (s.link l).config.loopback = true then 8 else 0)
                + (match (s.link l).config.stopBits with
                  | .one => 0
                  | .two => 4)
                + (match (s.link l).config.parity with
                  | .none => 0
                  | .even => 1
                  | .odd => 2))] })

/-- 06, R122 and R130, 05, R111, 07, R148: LINK-START gives a STOPPED link a new epoch and starts its first
HELLO; LINK-STOP ends an UP link, cuts the frame on the line and stops the link. That every cut adds a
delimiter, also while an earlier one is still to end, is log entry 12. Which character of the cut frame has
begun and is still to be delivered on the internal path of a looped link (the one in reception, or the first
of a frame of which none is delivered) is log entry 10. -/
def Obligations.LinkStartAndLinkStop : Prop :=
  ∀ (s : State) (cmd : Command) (l : LinkNo),
    let x := s.link l
    let epoch : Word := if x.ownEpoch = 65535 then 1 else x.ownEpoch + 1
    let stopped := fun (u : State) =>
      let y := u.link l
      let v := u.setLink l
        { y with
          state := .stopped
          helloDue := false
          helloTimer := none
          deadTimer := none
          assembly := .hunt
          buffer := []
          onLine := none
          cutDelimiters := if y.onLine = none then y.cutDelimiters else y.cutDelimiters + 1
          transmitter :=
            match y.onLine, y.transmitter with
            | some _, .sendingFrame cfg => .finishing cfg
            | _, x => x
          loopPath :=
            match y.onLine with
            | none => y.loopPath
            | some f =>
              if y.config.loopback = true then
                let before := y.loopPath.length - (lineCharacters f).length
                let begun :=
                  match y.transmitter, y.receiver with
                  | .sendingFrame _, .receiving _ => 1
                  | .sendingFrame _, _ =>
                    if (lineCharacters f).length ≤ y.loopPath.length then 1 else 0
                  | _, _ => 0
                y.loopPath.take (before + begun) ++ [0xF8]
              else y.loopPath }
      match y.onLine with
        | some (.data _ _ _) => { v with txFree := u.txFree + 1 }
        | _ => v
    (s.completes .linkStart cmd → 3 < cmd.args[0].toNat →
      exec .linkStart s = .next (s.settled cmd 2))
    ∧ (s.completes .linkStart cmd → cmd.args[0].toNat = l.val → x.state ≠ .stopped →
      exec .linkStart s = .next (s.settled cmd 4))
    ∧ (s.completes .linkStart cmd → cmd.args[0].toNat = l.val → x.state = .stopped →
      exec .linkStart s = .next
        { (State.boundary
            (s.setLink l
              { x with
                state := .seeking
                ownEpoch := epoch
                peerEpoch := 0
                helloDue := true
                helloTimer := some (s.settings.hello * 10)
                deadTimer := none
                assembly := .hunt
                buffer := [] }) l).settled cmd 0 with
          args := s.args.set 1 epoch })
    ∧ (s.completes .linkStop cmd → 3 < cmd.args[0].toNat →
      exec .linkStop s = .next (s.settled cmd 2))
    ∧ (s.completes .linkStop cmd → cmd.args[0].toNat = l.val → x.state = .stopped →
      exec .linkStop s = .next (s.settled cmd 4))
    ∧ (s.completes .linkStop cmd → cmd.args[0].toNat = l.val → x.state = .seeking →
      exec .linkStop s = .next
        { (State.finishClaim s (stopped s) l).settled cmd 0 with args := s.args.set 1 0 })
    ∧ (s.completes .linkStop cmd → cmd.args[0].toNat = l.val → x.state = .up →
      exec .linkStop s = .next
        { (State.finishClaim s (stopped (s.endLink l .linkStopped)) l).settled cmd 0 with
          args := s.args.set 1 (wordOf (allCircuits.countP fun c => (s.record c).any fun r =>
            decide (r.link = l) && r.phase.live)) })

/-- 06, R124 to R126 and R129: a HELLO frame by the state of the link and by its two epochs. -/
def Obligations.HelloFrameByStateAndEpochs : Prop :=
  ∀ (s t : State) (l : LinkNo) (epoch seen : Word),
    let x := t.link l
    let answer := exec (.helloFrame l epoch seen) s
    (s.hears l .seeking (.hello epoch seen) = some t →
      (epoch = 0 → answer = .next (State.finishClaim t (t.assembled l) l))
      ∧ (epoch ≠ 0 → seen = x.ownEpoch →
        answer = .next
          (State.finishClaim t
            (((t.assembled l).onLink l fun y =>
              { y with
                state := .up
                peerEpoch := epoch
                helloDue := true
                helloTimer := none
                deadTimer := some (t.settings.deadCount * (t.settings.hello * 10)) }).postLink l .up)
            l))
      ∧ (epoch ≠ 0 → seen ≠ x.ownEpoch →
        answer = .next
          (State.finishClaim t
            ((t.assembled l).onLink l fun y => { y with peerEpoch := epoch, helloDue := true }) l)))
    ∧ (s.hears l .up (.hello epoch seen) = some t →
      (epoch = 0 → answer = .next (State.finishClaim t (t.assembled l) l))
      ∧ (epoch ≠ 0 → epoch = x.peerEpoch → seen = x.ownEpoch →
        answer = .next (State.finishClaim t (t.heard l) l))
      ∧ (epoch ≠ 0 → (epoch ≠ x.peerEpoch ∨ seen ≠ x.ownEpoch) →
        answer = .next
          (State.finishClaim t
            (((t.heard l).endLink l .peerRestart).onLink l fun y =>
              { y with
                state := .seeking
                ownEpoch := if y.ownEpoch = 65535 then 1 else y.ownEpoch + 1
                peerEpoch := epoch
                helloDue := true
                helloTimer := some (t.settings.hello * 10)
                deadTimer := none })
            l)))

/-- 06, R118, R124 and 07, R149: the frames that no Link Controller takes, and that reach no record: any
frame on a STOPPED link, any frame but HELLO on a SEEKING link, and on a looped link a frame whose
characters are not next on its internal path. -/
def Obligations.FramesThatNoLinkControllerTakes : Prop :=
  ∀ (s t : State) (l : LinkNo) (f : Frame), f.fits → s.held = false →
    (s.hears l (s.link l).state f = none → exec (f.row l) s = .next s)
    ∧ (s.hears l .stopped f = some t → exec (f.row l) s = .next t)
    ∧ (s.hears l .seeking f = some t → (∀ epoch seen, f ≠ .hello epoch seen) →
      exec (f.row l) s = .next (State.finishClaim t (t.assembled l) l))

/-- 06, R127 and R128 (with R14, R26, R152 and R153): a link end: every record, its end causes, the active
counts, the cells returned, the link record, the ENDED notices in rising number and the DOWN notice after
them, and nothing else; and the expiry of the dead timer, after which the link seeks afresh. -/
def Obligations.LinkEndAndDeadTimerExpiry : Prop :=
  (∀ (s : State) (l : LinkNo) (cause : DownCause),
    let t := s.endLink l cause
    let liveHere := fun (c : CircuitNo) =>
      (s.record c).any fun r => decide (r.link = l) && r.phase.live
    t = { s with
      circuits := t.circuits
      services := s.services.map fun e =>
        { e with
          active := e.active - allCircuits.countP fun c => (s.record c).any fun r =>
            decide (r.link = l) && r.phase.live
              && decide (r.direction = .incoming ∧ r.service = e.number) }
      txFree := s.txFree +
        (allCircuits.map fun c =>
          if liveHere c then ((s.record c).map fun r => r.txQueue.length).getD 0 else 0).sum
      links := s.links.set l
        { s.link l with
          controlList := [], answerList := [], deadTimer := none, lastDown := some cause }
      circuitNotices := t.circuitNotices
      linkNotices := s.linkNotices.set l { s.linkNotices[l] with down := true }
      noticeList := s.noticeList
        ++ (allCircuits.filter fun c => liveHere c && s.circuitNotices[c].isEmpty).map Source.circuit
        ++ (if s.linkNotices[l].isEmpty = true then [Source.link l] else []) }
    ∧ (∀ c : CircuitNo, t.circuitNotices[c] =
      if liveHere c = true then { s.circuitNotices[c] with ended := true } else s.circuitNotices[c])
    ∧ (∀ c, (t.circuit c).generation = (s.circuit c).generation)
    ∧ (∀ c, s.record c = none → t.record c = none)
    ∧ (∀ c r, s.record c = some r → r.link ≠ l → t.record c = some r)
    ∧ (∀ c r, s.record c = some r → r.link = l → r.phase.live = true →
      t.record c = some
        { r.atEnd
            (match cause with
              | .linkStopped => .linkStopped
              | .linkLost => .linkLost
              | .peerRestart => .peerRestart) none with
          owed := { } })
    ∧ (∀ c r, s.record c = some r → r.link = l → r.phase.live = false →
      t.record c = some { r with owed := { } }))
  ∧ ∀ (s : State) (l : LinkNo), s.held = false → (s.link l).state = .up →
    (s.link l).deadTimer ≠ none →
    exec (.deadTimerExpiry l) s = .next
      (State.finishClaim s
        ((s.endLink l .linkLost).onLink l fun y =>
          { y with
            state := .seeking
            ownEpoch := if y.ownEpoch = 65535 then 1 else y.ownEpoch + 1
            peerEpoch := 0
            helloDue := true
            helloTimer := some (s.settings.hello * 10)
            deadTimer := none })
        l)

/-- 06, R118 to R120, 07, R139, R146, R147 and R149: FRAME_DISCARD and LINE_FAULT: the assembly, the last
fault cause and the FAULT notice on a running link. On a STOPPED link, whose codec is held, FRAME_DISCARD
does nothing, and LINE_FAULT moves the receiver alone. LINE_FAULT does nothing where the input is not
watched, where the receiver waits for mark, or for PARITY in a character without a parity bit. The model's
choices: that FRAME_DISCARD acts whatever the receiver and the assembly were (log entry 11), that both rows
do nothing on a looped link (log entry 9), that an event for which the state has no room changes nothing
(log entry 3), and the operands that tell the two FRAMING faults and the two BAD-ESCAPE discards apart (log
entry 23). -/
def Obligations.DiscardsAndLineFaultsAreRecorded : Prop :=
  ∀ (s : State) (l : LinkNo), s.held = false →
    let x := s.link l
    (∀ cause : FrameFault,
      ((x.state = .stopped ∨ x.config.loopback = true) → exec (.frameDiscard l cause) s = .next s)
      ∧ (x.state ≠ .stopped → x.config.loopback = false →
        exec (.frameDiscard l cause) s = .next
          ((s.setLink l
            { x with
              assembly :=
                match cause with
                | .badEscape false | .oversize => .hunt
                | .badEscape true | .badLength | .unknownKind | .crc => .gather
              buffer := []
              lastFault :=
                match cause with
                | .badEscape _ => .badEscape
                | .oversize => .oversize
                | .badLength => .badLength
                | .unknownKind => .unknownKind
                | .crc => .crc }).postLink l .fault)))
    ∧ ∀ cause : LineFault,
      let y : Link :=
        { x with
          receiver :=
            match cause with
            | .parity | .framingEnded => .ready
            | .framingHeld | .breakCondition => .waiting }
      let parity :=
        match x.receiver with
        | .receiving cfg => cfg.parity
        | _ => x.config.parity
      let found :=
        x.config.loopback = false ∧ x.receiver ≠ .waiting ∧ (cause = .parity → parity ≠ .none)
      (¬ found → exec (.lineFault l cause) s = .next s)
      ∧ (found → x.state = .stopped →
        exec (.lineFault l cause) s = .next (s.setLink l y))
      ∧ (found → x.state ≠ .stopped →
        exec (.lineFault l cause) s = .next
          ((s.setLink l
            { y with
              assembly := .hunt
              buffer := []
              lastFault :=
                match cause with
                | .parity => .parity
                | .framingEnded | .framingHeld => .framing
                | .breakCondition => .breakCondition }).postLink l .fault))

/-- 06, R118 and R119, 07, R139 and R145 to R149: RECEIVED_CHARACTER: the receiver at a start edge, at a
space without one and at the judgement of a character under the configuration it began with; where the
character comes from on a looped link; and the assembly of R118. That a looped link takes the head of its
internal path whatever the samples are, from the start of the frame on, is the model's choice, log entry 9;
that it takes none while it waits for that path to return to mark is log entry 29.
`checkFrame` is stated by `FramesSurviveTheLine`. -/
def Obligations.CharactersAreJudgedAndAssembled : Prop :=
  ∀ (s : State) (l : LinkNo), s.held = false →
    let x := s.link l
    let put := fun (r : ReceiverState) => s.setLink l { x with receiver := r }
    let answer := fun (input : ReceiverInput) => exec (.receivedCharacter l input) s
    let parity :=
      match x.receiver with
      | .receiving cfg => cfg.parity
      | _ => x.config.parity
    let seesEdge := x.receiver = .ready ∧ (x.config.loopback = true → x.loopPath ≠ [])
    (seesEdge → answer .startEdge = .next (put (.receiving x.config)))
    ∧ (¬ seesEdge → answer .startEdge = .next s)
    ∧ (x.config.loopback = false → x.receiver = .ready →
      answer .spaceWithoutEdge = .next (put .waiting))
    ∧ ((x.config.loopback = true ∨ x.receiver ≠ .ready) → answer .spaceWithoutEdge = .next s)
    ∧ (∀ samples, x.config.loopback = true → x.loopPath = [] →
      answer (.character samples) = .next s)
    ∧ (∀ samples b rest, x.config.loopback = true → x.loopPath = b :: rest →
      x.receiver ≠ .waiting → answer (.character samples)
        = .next ((s.setLink l { x with receiver := .ready, loopPath := rest }).deliver l b))
    ∧ (∀ samples, x.receiver = .waiting → answer (.character samples) = .next s)
    ∧ (∀ samples, x.config.loopback = false → x.receiver ≠ .waiting →
      (judge parity samples = .falseStart → answer (.character samples) = .next (put .ready))
      ∧ (∀ b, judge parity samples = .character b →
        answer (.character samples) = .next ((put .ready).deliver l b))
      ∧ (∀ f, judge parity samples = .fault f →
        answer (.character samples) = exec (.lineFault l f) s))
    ∧ ∀ b : Byte,
      let at_ := fun (a : Assembly) (buffer : List Byte) =>
        s.setLink l { x with assembly := a, buffer := buffer }
      let appended := fun (c : Byte) =>
        if 40 ≤ x.buffer.length then s.handleDiscard l .oversize
        else at_ .gather (x.buffer ++ [c])
      (x.state = .stopped → s.deliver l b = s)
      ∧ (x.state ≠ .stopped →
        (x.assembly = .hunt → s.deliver l b = if b = 0xF8 then at_ .gather [] else s)
        ∧ (x.assembly = .gather → b = 0xF8 → x.buffer = [] → s.deliver l b = s)
        ∧ (x.assembly = .gather → b = 0xF8 → x.buffer ≠ [] →
          s.deliver l b =
            match checkFrame x.buffer with
            | .ok f => s.handleFrame l f
            | .error cause => s.handleDiscard l cause)
        ∧ (x.assembly = .gather → b = 0xF9 → s.deliver l b = at_ .escaped x.buffer)
        ∧ (x.assembly = .gather → b ≠ 0xF8 → b ≠ 0xF9 → s.deliver l b = appended b)
        ∧ (x.assembly = .escaped → b = 0x08 → s.deliver l b = appended 0xF8)
        ∧ (x.assembly = .escaped → b = 0x09 → s.deliver l b = appended 0xF9)
        ∧ (x.assembly = .escaped → b = 0xF8 → s.deliver l b = s.handleDiscard l (.badEscape true))
        ∧ (x.assembly = .escaped → b ≠ 0x08 → b ≠ 0x09 → b ≠ 0xF8 →
          s.deliver l b = s.handleDiscard l (.badEscape false)))

/-- 07, R139 to R141, R145, R146 and R149: the sample periods and the bits of a character that is sent; where
each bit is sampled; the majority of three samples, the order of the data bits, the parity rule and the
four cases in which a character is judged; and that a character sent is received as itself under the same
configuration. That a character whose bits are all read as space falls under case 1 of R146 also where the
line showed mark in between, so that it is FRAMING with the receiver READY where it did, is the model's
choice, log entry 30. -/
def Obligations.CharacterSamplesAreJudgedInOrder : Prop :=
  (∀ cfg : LineConfig,
    (∀ j, cfg.longPeriod j = true ↔ j * cfg.fraction.toNat / 32 < (j + 1) * cfg.fraction.toNat / 32)
    ∧ (∀ j, cfg.samplePeriod j = cfg.divisor.toNat + if cfg.longPeriod j = true then 1 else 0)
    ∧ (List.range 32).countP cfg.longPeriod = cfg.fraction.toNat
    ∧ cfg.groupPeriods = 32 * cfg.divisor.toNat + cfg.fraction.toNat
    ∧ cfg.characterBits = 9 + (if cfg.parity = .none then 0 else 1)
      + (if cfg.stopBits = .two then 2 else 1)
    ∧ ∀ b : Byte,
      let levels := cfg.characterLevels b
      let marks := (levels.take 10).count .mark
      levels.length = cfg.characterBits ∧ levels[0]? = some .space
      ∧ (∀ k, k < 8 → levels[1 + k]? = some (if b.getLsbD k = true then .mark else .space))
      ∧ (cfg.parity = .even → marks % 2 = 0) ∧ (cfg.parity = .odd → marks % 2 = 1)
      ∧ (∀ k, (if cfg.parity = .none then 9 else 10) ≤ k → k < cfg.characterBits →
        levels[k]? = some .mark)
      ∧ judge cfg.parity (cfg.samplesSeen (cfg.wave [b])) = .character b)
  ∧ (∀ (cfg : LineConfig) (bs : List Byte),
    cfg.wave bs = (bs.flatMap cfg.characterLevels).flatMap (List.replicate 16)
    ∧ (cfg.wave bs).length = cfg.lineSamples bs.length)
  ∧ (∀ (cfg : LineConfig) (levels : List LineLevel),
    let seen := cfg.samplesSeen levels
    let bit := fun (k : Nat) =>
      [levels.getD (16 * k + 6) .mark, levels.getD (16 * k + 7) .mark, levels.getD (16 * k + 8) .mark]
    let samples := fun (x : BitSamples) => [x.seventh, x.eighth, x.ninth]
    samples seen.start = bit 0 ∧ (∀ k : Fin 8, samples seen.data[k] = bit (1 + k.val))
    ∧ samples seen.parity = bit 9
    ∧ samples seen.stop = bit (if cfg.parity = .none then 9 else 10)
    ∧ (seen.heldAtSpace = true ↔ ∀ j, j < 16 * cfg.characterBits → levels.getD j .mark = .space))
  ∧ ∀ (p : Parity) (c : CharacterSamples),
    let mark := fun (b : BitSamples) =>
      2 ≤ [b.seventh, b.eighth, b.ninth].countP fun x => decide (x = .mark)
    let marks := (c.data.toList ++ [c.parity]).countP fun b => decide (mark b)
    let someMark := (∃ k : Fin 8, mark c.data[k]) ∨ (p ≠ .none ∧ mark c.parity)
    let parityWrong := (p = .even ∧ marks % 2 = 1) ∨ (p = .odd ∧ marks % 2 = 0)
    (mark c.start → judge p c = .falseStart)
    ∧ (¬ mark c.start → ¬ mark c.stop → ¬ someMark →
      judge p c = .fault (if c.heldAtSpace = true then .breakCondition else .framingEnded))
    ∧ (¬ mark c.start → ¬ mark c.stop → someMark → judge p c = .fault .framingHeld)
    ∧ (¬ mark c.start → mark c.stop → parityWrong → judge p c = .fault .parity)
    ∧ (¬ mark c.start → mark c.stop → ¬ parityWrong →
      ∃ b : Byte, judge p c = .character b ∧ ∀ k : Fin 8, b.getLsbD k.val = decide (mark c.data[k]))

/-- 08, R155: NEXT-NOTICE collects the source at the head of the notice list with the values its record
holds, and completes NONE on an empty list. -/
def Obligations.NextNoticeCollectsTheHead : Prop :=
  ∀ (s : State) (cmd : Command), s.completes .nextNotice cmd →
    (s.noticeList = [] → exec .nextNotice s = .next (s.settled cmd 15))
    ∧ (∀ (c : CircuitNo) (rest : List Source) (r : Record),
      s.noticeList = .circuit c :: rest → s.record c = some r →
      exec .nextNotice s = .next
        { s.settled cmd 0 with
          circuitNotices := s.circuitNotices.set c { }
          noticeList := rest
          args := #v[
            wordOf c.val,
            wordOf ((if s.circuitNotices[c].opened then 1 else 0)
              + (if s.circuitNotices[c].offered then 2 else 0)
              + (if s.circuitNotices[c].data then 4 else 0)
              + (if s.circuitNotices[c].room then 8 else 0)
              + (if s.circuitNotices[c].ended then 16 else 0)),
            pack (byteOf r.phase.code) (s.circuit c).generation,
            r.tag,
            (match r.phase with
              | .ended cause detail _ => pack (byteOf cause.code) (detail.getD 0)
              | _ => 0),
            pack (byteOf r.direction.code) (byteOf r.link.val),
            pack (byteOf r.rxQueue.length)
              (match r.phase with
                | .ended _ _ discarded => byteOf discarded
                | _ => 0),
            wordOf rest.length] })
    ∧ ∀ (l : LinkNo) (rest : List Source), s.noticeList = .link l :: rest →
      exec .nextNotice s = .next
        { s.settled cmd 0 with
          linkNotices := s.linkNotices.set l { }
          noticeList := rest
          args := #v[
            wordOf (64 + l.val),
            wordOf ((if s.linkNotices[l].up then 1 else 0)
              + (if s.linkNotices[l].down then 2 else 0)
              + (if s.linkNotices[l].fault then 4 else 0)),
            pack (byteOf (s.link l).state.code) (byteOf l.val),
            (s.link l).ownEpoch,
            pack
              (match (s.link l).lastDown with
                | none => 0
                | some .linkStopped => 12
                | some .linkLost => 13
                | some .peerRestart => 14)
              (byteOf (s.link l).lastFault.code),
            (s.link l).peerEpoch,
            0,
            wordOf rest.length] }

/-- 01, R8 and R14, 03, R66, 06, R134 and R135, 08, R153: the shared operations: owing a kind, the ending of
a kind no longer owed, the ending of
a circuit, a forced close, an answer item and a posting. -/
def Obligations.OwingEndingAnsweringAndPosting : Prop :=
  (∀ (s : State) (c : CircuitNo) (r : Record) (k : ControlKind), s.record c = some r →
    s.owe c k =
      (let t := s.setRecord c (some { r with owed := r.owed.put k true })
      if r.owed = { } ∧ (s.link r.link).state = .up then
        t.onLink r.link fun x => { x with controlList := x.controlList ++ [c] }
      else t))
  ∧ (∀ (s : State) (c : CircuitNo) (r : Record) (k : ControlKind), s.record c = some r →
    s.disown c k =
      (let left := r.owed.put k false
      let t := s.setRecord c (some { r with owed := left })
      if left = { } then
        t.onLink r.link fun x => { x with controlList := x.controlList.filter fun d => d ≠ c }
      else t))
  ∧ (∀ (o : Owed) (k j : ControlKind) (b : Bool),
    (o.put k b).has j = if j = k then b else o.has j)
  ∧ (∀ (s : State) (c : CircuitNo) (r : Record) (cause : EndCause) (detail : Option Byte),
    s.record c = some r →
    let ended : Record :=
      { r with
        phase := .ended cause detail r.txQueue.length
        txQueue := []
        owed := { close := r.owed.close, closed := r.owed.closed }
        retryCount := 0
        roomWanted := false
        retryTimer := none
        holdTimer := none
        askTimer := none }
    let t := s.setRecord c (some ended)
    let t :=
      if r.owed.close = false ∧ r.owed.closed = false then
        t.onLink r.link fun x => { x with controlList := x.controlList.filter fun d => d ≠ c }
      else t
    let services : List Service :=
      if r.direction = .incoming then
        s.services.map fun e =>
          if e.number = r.service then { e with active := e.active - 1 } else e
      else s.services
    let t := { t with txFree := s.txFree + r.txQueue.length, services := services }
    s.endCircuit c cause detail = t.postCircuit c .ended)
  ∧ (∀ (s : State) (c : CircuitNo) (r : Record) (x : CloseReason), s.record c = some r →
    (r.phase.sendsData = true →
      s.forceClose c x = State.owe
        { s.setRecord c (some
            { r with phase := .closing x, retryCount := 0, txQueue := [], askTimer := none }) with
          txFree := s.txFree + r.txQueue.length } c .close)
    ∧ (r.phase = .closing .normal →
      s.forceClose c x = s.setRecord c (some { r with phase := .closing x })))
  ∧ (∀ (s : State) (l : LinkNo) (item : AnswerItem),
    s.answer l item = s.setLink l
      { s.link l with
        answerList :=
          if (s.link l).answerList.length < 8 then (s.link l).answerList ++ [item]
          else (s.link l).answerList })
  ∧ (∀ (s : State) (c : CircuitNo) (k : CircuitNotice),
    (∀ j, (s.postCircuit c k).circuitNotices[c].has j = (s.circuitNotices[c].has j || decide (j = k)))
    ∧ s.postCircuit c k =
      { s with
        circuitNotices := s.circuitNotices.set c ((s.postCircuit c k).circuitNotices[c])
        noticeList :=
          if s.circuitNotices[c] = { } then s.noticeList ++ [.circuit c] else s.noticeList })
  ∧ ∀ (s : State) (l : LinkNo) (k : LinkNotice),
    (∀ j, (s.postLink l k).linkNotices[l].has j = (s.linkNotices[l].has j || decide (j = k)))
    ∧ s.postLink l k =
      { s with
        linkNotices := s.linkNotices.set l ((s.postLink l k).linkNotices[l])
        noticeList :=
          if s.linkNotices[l] = { } then s.noticeList ++ [.link l] else s.noticeList }

/-! ### Frames and characters agree (chapter 6) -/

/-- 06, R115 to R119: the layout of each kind, the CRC, the stuffing, the four checks of a received frame in
their order with their causes, and what they leave: a frame passes exactly when it is a frame of the layout
with its CRC, and as itself. The characters that a frame puts on the line, delivered one by one between
frames or in HUNT, are the frame taken whole. -/
def Obligations.FramesSurviveTheLine : Prop :=
  (∀ (e n limit : Word) (h : Header) (service quota reason sequence : Byte) (payload : List Byte),
    let addressed := fun (kind : Byte) (rest : List Byte) =>
      [kind, h.dst, h.dstGen, h.src, h.srcGen] ++ rest
    (Frame.hello e n).bytes = [1, hiByte e, loByte e, hiByte n, loByte n]
    ∧ (Frame.openRequest h service quota).bytes = addressed 2 [service, quota]
    ∧ (Frame.accept h quota).bytes = addressed 3 [quota]
    ∧ (Frame.refuse h reason).bytes = addressed 4 [reason]
    ∧ (Frame.close h reason).bytes = addressed 5 [reason]
    ∧ (Frame.closed h).bytes = addressed 6 []
    ∧ (Frame.data h sequence payload).bytes = addressed 7 (sequence :: payload)
    ∧ (Frame.grant h limit).bytes = addressed 8 [hiByte limit, loByte limit]
    ∧ (Frame.ask h).bytes = addressed 9 [])
  ∧ (∀ f : Frame, f.whole = f.bytes ++ [hiByte (crc16 f.bytes), loByte (crc16 f.bytes)])
  ∧ (crc16 [] = 0xFFFF ∧ ∀ (bs : List Byte) (b : Byte),
    crc16 (bs ++ [b]) = (List.range 8).foldl
      (fun (r : Word) _ => if 0x8000 ≤ r.toNat then (r <<< 1) ^^^ 0x1021 else r <<< 1)
      (crc16 bs ^^^ (b.setWidth 16 <<< 8)))
  ∧ (∀ f : Frame, lineCharacters f =
    0xF8 :: (f.whole.flatMap fun b =>
      if b = 0xF8 then [0xF9, 0x08] else if b = 0xF9 then [0xF9, 0x09] else [b]) ++ [0xF8])
  ∧ (∀ (kind : Byte) (rest : List Byte),
    let bs := kind :: rest
    let k := kind.toNat
    let n := bs.length
    let lengthFits :=
      (k = 1 ∧ n = 7) ∨ (k = 2 ∧ n = 9) ∨ (k = 3 ∧ n = 8) ∨ (k = 4 ∧ n = 8) ∨ (k = 5 ∧ n = 8)
        ∨ (k = 6 ∧ n = 7) ∨ (k = 7 ∧ 9 ≤ n ∧ n ≤ 40) ∨ (k = 8 ∧ n = 9) ∨ (k = 9 ∧ n = 7)
    let crc := crc16 (bs.take (n - 2))
    let crcFits := bs.drop (n - 2) = [hiByte crc, loByte crc]
    (n < 7 → checkFrame bs = .error .badLength)
    ∧ (7 ≤ n → (k = 0 ∨ 9 < k) → checkFrame bs = .error .unknownKind)
    ∧ (7 ≤ n → 1 ≤ k → k ≤ 9 → ¬ lengthFits → checkFrame bs = .error .badLength)
    ∧ (lengthFits → ¬ crcFits → checkFrame bs = .error .crc)
    ∧ (lengthFits → crcFits → ∃ f : Frame, f.fits ∧ f.whole = bs ∧ checkFrame bs = .ok f))
  ∧ (∀ f : Frame, f.fits → checkFrame f.whole = .ok f)
  ∧ ∀ (s : State) (l : LinkNo) (f : Frame), f.fits → (s.link l).state ≠ .stopped →
    ((s.link l).assembly = .hunt ∨ ((s.link l).assembly = .gather ∧ (s.link l).buffer = [])) →
    (lineCharacters f).foldl (fun t b => t.deliver l b) s = s.handleFrame l f

/-! ### What every step keeps -/

/-- 08, R152 and R153, 01, R13: the notice list is exactly the sources with something pending, each once, and
a FREE circuit has nothing pending. -/
def Obligations.StepsKeepTheNoticeLaws : Prop :=
  ∀ s t : State, NoticeListLaw s ∧ PendingLaw s → step s = .next t →
    NoticeListLaw t ∧ PendingLaw t

/-- 04, R73 and R74, 05, R95: the three totals of the pools are those of the records and the lines. -/
def Obligations.StepsKeepThePoolTotals : Prop :=
  ∀ s t : State,
    ReservationLaw s ∧ CellsHeldLaw s ∧ TransmitPoolLaw s ∧ QueueStateLaw s → step s = .next t →
    ReservationLaw t ∧ CellsHeldLaw t ∧ TransmitPoolLaw t ∧ QueueStateLaw t

/-- 04, R75 and R76: no circuit is granted more than its reserved cells, and a receive queue holds
consecutive sequence numbers; beside them the ranges of the service entries that quotas come from. -/
def Obligations.StepsKeepCreditWithinQuotaAndSequence : Prop :=
  ∀ s t : State, CreditLaw s ∧ SequenceLaw s ∧ ServiceTableLaw s → step s = .next t →
    CreditLaw t ∧ SequenceLaw t ∧ ServiceTableLaw t

/-- 01, R16, 05, R101 and R102, 06, R127, R134 and R135: the lists of the links are those of the owed sets,
live circuits are on UP links, and no IDLE transmitter has anything to send. -/
def Obligations.StepsKeepTheLinkListsAndLeaveNothingUnsent : Prop :=
  ∀ s t : State,
    ControlListLaw s ∧ OwedLaw s ∧ LiveLinkLaw s ∧ AnswerListLaw s ∧ IdleLaw s → step s = .next t →
    ControlListLaw t ∧ OwedLaw t ∧ LiveLinkLaw t ∧ AnswerListLaw t ∧ IdleLaw t

/-- 01, R6 and R7, 02, R25 and R26, 05, R96: the ranges of entries and records, and the active count of every
entry. -/
def Obligations.StepsKeepTheServiceTableAndItsCounts : Prop :=
  ∀ s t : State, ServiceTableLaw s ∧ ActiveCountLaw s ∧ CallingLaw s ∧ SizesLaw s →
    step s = .next t →
    ServiceTableLaw t ∧ ActiveCountLaw t ∧ CallingLaw t ∧ SizesLaw t

/-- 01, R16, 06, R121, 07, R139, R141, R144 and R148, 09, R176 to R178: no two counted circuits of a link have
one peer number; the dead timer runs exactly on an UP link; an epoch in use is never 0; the line transmitter
and the receiver of each link agree with what is on the line and with the configuration; and a held part
is at rest. -/
def Obligations.StepsKeepPeersUniqueAndEpochsInUse : Prop :=
  ∀ s t : State, PeerLaw s ∧ DeadTimerLaw s ∧ EpochLaw s ∧ LineLaw s ∧ HoldLaw s →
    step s = .next t → PeerLaw t ∧ DeadTimerLaw t ∧ EpochLaw t ∧ LineLaw t ∧ HoldLaw t

/-- 01, R4 and R9 to R12, 02, R42, 03, R61 and R67, 04, R89: the fields of every record agree with its state;
in particular a CLOSE is owed only where R61 gives its reason, so that the free value of log entry 15 is
never sent. -/
def Obligations.StepsKeepRecordsInTheFormOfTheirState : Prop :=
  ∀ s t : State, RecordLaw s → step s = .next t → RecordLaw t

/-- The laws of the statements above hold of the part after power-on. -/
def Obligations.PowerOnStateKeepsEveryLaw : Prop :=
  NoticeListLaw State.reset ∧ PendingLaw State.reset ∧ ReservationLaw State.reset
    ∧ CellsHeldLaw State.reset ∧ TransmitPoolLaw State.reset ∧ QueueStateLaw State.reset
    ∧ CreditLaw State.reset ∧ SequenceLaw State.reset ∧ ServiceTableLaw State.reset
    ∧ ControlListLaw State.reset ∧ OwedLaw State.reset ∧ LiveLinkLaw State.reset
    ∧ AnswerListLaw State.reset ∧ IdleLaw State.reset ∧ ActiveCountLaw State.reset
    ∧ CallingLaw State.reset ∧ SizesLaw State.reset ∧ PeerLaw State.reset
    ∧ DeadTimerLaw State.reset ∧ EpochLaw State.reset ∧ LineLaw State.reset
    ∧ HoldLaw State.reset ∧ RecordLaw State.reset

/-! ### What no event does -/

/-- 01, R3, R4, R6, R15 and R17: a generation moves only by the 1 of an allocation; a record keeps its
direction, link, service, quota and peer; an ENDED record stays as it ended until a release, CLEAR or a
reset, but for its receive queue and what it still owes. -/
def Obligations.RecordsKeepTheirIdentity : Prop :=
  ∀ (i : Instr) (s t : State), exec i s = .next t →
    (∀ c, (∀ moment rxd, i ≠ .powerOn moment rxd) →
      (t.circuit c).generation = (s.circuit c).generation
        ∨ (s.record c = none ∧ t.record c ≠ none
          ∧ (t.circuit c).generation = (s.circuit c).generation + 1))
    ∧ (∀ c, s.record c = none → t.record c ≠ none →
      (t.circuit c).generation = (s.circuit c).generation + 1)
    ∧ (∀ c r r', s.record c = some r → t.record c = some r' →
      r'.direction = r.direction ∧ r'.link = r.link ∧ r'.service = r.service
        ∧ r'.quota = r.quota ∧ (r.peer ≠ none → r'.peer = r.peer))
    ∧ ∀ c r, RecordLaw s → s.record c = some r → r.phase.live = false →
      (t.record c = none
        ∧ (i = .circuitRelease ∨ i = .clear ∨ (∃ n rxd, i = .resetnPulse n rxd)
          ∨ ∃ moment rxd, i = .powerOn moment rxd))
      ∨ ∃ r', t.record c = some r' ∧ { r' with rxQueue := r.rxQueue, owed := r.owed } = r
        ∧ (r'.rxQueue = r.rxQueue ∨ (i = .receive ∧ r'.rxQueue = r.rxQueue.tail))

/-- 04, R77 to R79 and R83, 05, R107 and R108: in one event a circuit that stays allocated moves its four
counters only as their rules give: the credit limit forward (but for the opening of a call), the sent count
by 1 and within the credit, the received count by 1 with the payload queued, within the advertised limit
and in sequence, and the advertised limit to the candidate limit. -/
def Obligations.CountersMoveOnlyAsTheirRulesGive : Prop :=
  ∀ (i : Instr) (s t : State) (c : CircuitNo) (r r' : Record), exec i s = .next t →
    s.record c = some r → t.record c = some r' →
    (r.phase ≠ .calling → r'.creditLimit ≠ r.creditLimit →
      1 ≤ (r'.creditLimit - r.creditLimit).toNat ∧ (r'.creditLimit - r.creditLimit).toNat ≤ 32767)
    ∧ ((r'.sent = r.sent ∧ r'.nextSeq = r.nextSeq)
      ∨ (r'.sent = r.sent + 1 ∧ r'.nextSeq = r.nextSeq + 1
        ∧ 1 ≤ (r'.creditLimit - r.sent).toNat ∧ (r'.creditLimit - r.sent).toNat ≤ 32767))
    ∧ ((r'.received = r.received ∧ r'.expected = r.expected)
      ∨ (r'.received = r.received + 1 ∧ r'.expected = r.expected + 1 ∧ r.received ≠ r.advertised
        ∧ ∃ payload, r'.rxQueue = r.rxQueue ++ [{ sequence := r.expected, payload := payload }]))
    ∧ (r'.advertised = r.advertised ∨ r'.advertised = r'.candidate)

/-- 03, R52, 05, R99, 06, R127 and R133, 09, R163: what comes from one line or one link's timers reaches no
other link, no circuit of another link but by a ROOM notice, no window word and no setting; and it allocates
INCOMING circuits of its own link alone. -/
def Obligations.LinesReachOnlyTheirOwnLink : Prop :=
  ∀ (i : Instr) (l : LinkNo) (s t : State), lineOf i = some l → ControlListLaw s →
    exec i s = .next t →
    (∀ m, m ≠ l → t.link m = s.link m)
    ∧ (∀ c r, s.record c = some r → r.link ≠ l →
      t.record c = some r ∨ t.record c = some { r with roomWanted := false })
    ∧ (∀ c r, s.record c = none → t.record c = some r → r.link = l ∧ r.direction = .incoming)
    ∧ t.word0 = s.word0 ∧ t.args = s.args ∧ t.data = s.data ∧ t.done = s.done
    ∧ t.collide = s.collide ∧ t.command = s.command ∧ t.settings = s.settings
    ∧ t.noticeEnable = s.noticeEnable ∧ t.completionEnable = s.completionEnable
    ∧ t.held = s.held ∧ t.pending = s.pending
end

