-- ==== Sys2Proof/Laws/State.lean ====
section
/-! SUPPORT. The small lemmas of State: what a read gives after each update, and for every shared
operation the fields that it leaves alone, as one simp lemma of equations per operation. -/

namespace Sys2Proof.Machine

/-! ### Reads after writes -/

@[simp] theorem State.circuit_setCircuit_self (s : State) (c : CircuitNo) (x : Circuit) :
    (s.setCircuit c x).circuit c = x := by
  simp [State.circuit, State.setCircuit]

theorem State.circuit_setCircuit_ne (s : State) {c d : CircuitNo} (x : Circuit) (h : d ≠ c) :
    (s.setCircuit c x).circuit d = s.circuit d := by
  have h' : c.val ≠ d.val := fun e => h (Fin.ext e.symm)
  simp [State.circuit, State.setCircuit, h']

@[simp] theorem State.record_setCircuit_self (s : State) (c : CircuitNo) (x : Circuit) :
    (s.setCircuit c x).record c = x.record := by
  simp [State.record]

theorem State.record_setCircuit_ne (s : State) {c d : CircuitNo} (x : Circuit) (h : d ≠ c) :
    (s.setCircuit c x).record d = s.record d := by
  simp [State.record, State.circuit_setCircuit_ne s x h]

@[simp] theorem State.record_setRecord_self (s : State) (c : CircuitNo) (r : Option Record) :
    (s.setRecord c r).record c = r := by
  simp [State.setRecord]

theorem State.record_setRecord_ne (s : State) {c d : CircuitNo} (r : Option Record) (h : d ≠ c) :
    (s.setRecord c r).record d = s.record d := by
  simp [State.setRecord, State.record_setCircuit_ne s _ h]

@[simp] theorem State.generation_setRecord (s : State) (c d : CircuitNo) (r : Option Record) :
    ((s.setRecord c r).circuit d).generation = (s.circuit d).generation := by
  by_cases h : d = c
  · subst h; simp [State.setRecord]
  · simp [State.setRecord, State.circuit_setCircuit_ne s _ h]

@[simp] theorem State.link_setLink_self (s : State) (l : LinkNo) (x : Link) :
    (s.setLink l x).link l = x := by
  simp [State.link, State.setLink]

theorem State.link_setLink_ne (s : State) {l m : LinkNo} (x : Link) (h : m ≠ l) :
    (s.setLink l x).link m = s.link m := by
  have h' : l.val ≠ m.val := fun e => h (Fin.ext e.symm)
  simp [State.link, State.setLink, h']

@[simp] theorem State.link_onLink_self (s : State) (l : LinkNo) (f : Link → Link) :
    (s.onLink l f).link l = f (s.link l) := by
  simp [State.onLink]

theorem State.link_onLink_ne (s : State) {l m : LinkNo} (f : Link → Link) (h : m ≠ l) :
    (s.onLink l f).link m = s.link m := by
  simp [State.onLink, State.link_setLink_ne s _ h]

/-! ### Fields of the state under a structure update -/

@[simp] theorem State.record_mk_circuits (s : State) (d : CircuitNo) (v : Vector Circuit 64) :
    State.record { s with circuits := v } d = v[d].record := rfl

@[simp] theorem State.record_with_txFree (s : State) (d : CircuitNo) (n : Nat) :
    State.record { s with txFree := n } d = s.record d := rfl

@[simp] theorem State.link_with_txFree (s : State) (m : LinkNo) (n : Nat) :
    State.link { s with txFree := n } m = s.link m := rfl

@[simp] theorem State.record_with_cellsHeld (s : State) (d : CircuitNo) (n : Nat) :
    State.record { s with cellsHeld := n } d = s.record d := rfl

@[simp] theorem State.link_with_cellsHeld (s : State) (m : LinkNo) (n : Nat) :
    State.link { s with cellsHeld := n } m = s.link m := rfl

@[simp] theorem State.record_with_pending (s : State) (d : CircuitNo) (q : List Instr) :
    State.record { s with pending := q } d = s.record d := rfl

@[simp] theorem State.link_with_pending (s : State) (m : LinkNo) (q : List Instr) :
    State.link { s with pending := q } m = s.link m := rfl

/-! ### Writes of one circuit, one link, one service, one pending set -/

/-- Writing one circuit changes the table alone. -/
@[simp] theorem State.setCircuit_frame (s : State) (c : CircuitNo) (x : Circuit) :
    (s.setCircuit c x).services = s.services
      ∧ (s.setCircuit c x).reservationTotal = s.reservationTotal
      ∧ (s.setCircuit c x).cellsHeld = s.cellsHeld ∧ (s.setCircuit c x).txFree = s.txFree
      ∧ (s.setCircuit c x).links = s.links ∧ (s.setCircuit c x).circuitNotices = s.circuitNotices
      ∧ (s.setCircuit c x).linkNotices = s.linkNotices
      ∧ (s.setCircuit c x).noticeList = s.noticeList
      ∧ (s.setCircuit c x).noticeEnable = s.noticeEnable
      ∧ (s.setCircuit c x).completionEnable = s.completionEnable
      ∧ (s.setCircuit c x).word0 = s.word0 ∧ (s.setCircuit c x).args = s.args
      ∧ (s.setCircuit c x).data = s.data ∧ (s.setCircuit c x).done = s.done
      ∧ (s.setCircuit c x).collide = s.collide ∧ (s.setCircuit c x).command = s.command
      ∧ (s.setCircuit c x).settings = s.settings ∧ (s.setCircuit c x).held = s.held
      ∧ (s.setCircuit c x).powering = s.powering ∧ (s.setCircuit c x).pending = s.pending
      ∧ (∀ m, (s.setCircuit c x).link m = s.link m) := by
    exact ⟨rfl, rfl, rfl, rfl, rfl, rfl, rfl, rfl, rfl, rfl, rfl, rfl, rfl, rfl, rfl, rfl, rfl,
    rfl, rfl, rfl, fun _ => rfl⟩

/-- Writing one record changes the table alone. -/
@[simp] theorem State.setRecord_frame (s : State) (c : CircuitNo) (r : Option Record) :
    (s.setRecord c r).services = s.services
      ∧ (s.setRecord c r).reservationTotal = s.reservationTotal
      ∧ (s.setRecord c r).cellsHeld = s.cellsHeld ∧ (s.setRecord c r).txFree = s.txFree
      ∧ (s.setRecord c r).links = s.links ∧ (s.setRecord c r).circuitNotices = s.circuitNotices
      ∧ (s.setRecord c r).linkNotices = s.linkNotices
      ∧ (s.setRecord c r).noticeList = s.noticeList
      ∧ (s.setRecord c r).noticeEnable = s.noticeEnable
      ∧ (s.setRecord c r).completionEnable = s.completionEnable
      ∧ (s.setRecord c r).word0 = s.word0 ∧ (s.setRecord c r).args = s.args
      ∧ (s.setRecord c r).data = s.data ∧ (s.setRecord c r).done = s.done
      ∧ (s.setRecord c r).collide = s.collide ∧ (s.setRecord c r).command = s.command
      ∧ (s.setRecord c r).settings = s.settings ∧ (s.setRecord c r).held = s.held
      ∧ (s.setRecord c r).powering = s.powering ∧ (s.setRecord c r).pending = s.pending
      ∧ (∀ m, (s.setRecord c r).link m = s.link m) := by
    exact ⟨rfl, rfl, rfl, rfl, rfl, rfl, rfl, rfl, rfl, rfl, rfl, rfl, rfl, rfl, rfl, rfl, rfl,
    rfl, rfl, rfl, fun _ => rfl⟩

/-- Writing one link changes the links alone. -/
@[simp] theorem State.setLink_frame (s : State) (l : LinkNo) (x : Link) :
    (s.setLink l x).circuits = s.circuits ∧ (s.setLink l x).services = s.services
      ∧ (s.setLink l x).reservationTotal = s.reservationTotal
      ∧ (s.setLink l x).cellsHeld = s.cellsHeld ∧ (s.setLink l x).txFree = s.txFree
      ∧ (s.setLink l x).circuitNotices = s.circuitNotices
      ∧ (s.setLink l x).linkNotices = s.linkNotices ∧ (s.setLink l x).noticeList = s.noticeList
      ∧ (s.setLink l x).noticeEnable = s.noticeEnable
      ∧ (s.setLink l x).completionEnable = s.completionEnable ∧ (s.setLink l x).word0 = s.word0
      ∧ (s.setLink l x).args = s.args ∧ (s.setLink l x).data = s.data
      ∧ (s.setLink l x).done = s.done ∧ (s.setLink l x).collide = s.collide
      ∧ (s.setLink l x).command = s.command ∧ (s.setLink l x).settings = s.settings
      ∧ (s.setLink l x).held = s.held ∧ (s.setLink l x).powering = s.powering
      ∧ (s.setLink l x).pending = s.pending ∧ (∀ d, (s.setLink l x).circuit d = s.circuit d)
      ∧ (∀ d, (s.setLink l x).record d = s.record d) := by
    exact ⟨rfl, rfl, rfl, rfl, rfl, rfl, rfl, rfl, rfl, rfl, rfl, rfl, rfl, rfl, rfl, rfl, rfl,
    rfl, rfl, rfl, fun _ => rfl, fun _ => rfl⟩

/-- Changing one link changes the links alone. -/
@[simp] theorem State.onLink_frame (s : State) (l : LinkNo) (f : Link → Link) :
    (s.onLink l f).circuits = s.circuits ∧ (s.onLink l f).services = s.services
      ∧ (s.onLink l f).reservationTotal = s.reservationTotal
      ∧ (s.onLink l f).cellsHeld = s.cellsHeld ∧ (s.onLink l f).txFree = s.txFree
      ∧ (s.onLink l f).circuitNotices = s.circuitNotices
      ∧ (s.onLink l f).linkNotices = s.linkNotices ∧ (s.onLink l f).noticeList = s.noticeList
      ∧ (s.onLink l f).noticeEnable = s.noticeEnable
      ∧ (s.onLink l f).completionEnable = s.completionEnable ∧ (s.onLink l f).word0 = s.word0
      ∧ (s.onLink l f).args = s.args ∧ (s.onLink l f).data = s.data
      ∧ (s.onLink l f).done = s.done ∧ (s.onLink l f).collide = s.collide
      ∧ (s.onLink l f).command = s.command ∧ (s.onLink l f).settings = s.settings
      ∧ (s.onLink l f).held = s.held ∧ (s.onLink l f).powering = s.powering
      ∧ (s.onLink l f).pending = s.pending ∧ (∀ d, (s.onLink l f).circuit d = s.circuit d)
      ∧ (∀ d, (s.onLink l f).record d = s.record d) := by
    exact ⟨rfl, rfl, rfl, rfl, rfl, rfl, rfl, rfl, rfl, rfl, rfl, rfl, rfl, rfl, rfl, rfl, rfl,
    rfl, rfl, rfl, fun _ => rfl, fun _ => rfl⟩

/-- A posting for a circuit changes its pending set and the notice list alone (R153). -/
@[simp] theorem State.postCircuit_frame (s : State) (c : CircuitNo) (k : CircuitNotice) :
    (s.postCircuit c k).circuits = s.circuits ∧ (s.postCircuit c k).services = s.services
      ∧ (s.postCircuit c k).reservationTotal = s.reservationTotal
      ∧ (s.postCircuit c k).cellsHeld = s.cellsHeld ∧ (s.postCircuit c k).txFree = s.txFree
      ∧ (s.postCircuit c k).links = s.links ∧ (s.postCircuit c k).linkNotices = s.linkNotices
      ∧ (s.postCircuit c k).noticeEnable = s.noticeEnable
      ∧ (s.postCircuit c k).completionEnable = s.completionEnable
      ∧ (s.postCircuit c k).word0 = s.word0 ∧ (s.postCircuit c k).args = s.args
      ∧ (s.postCircuit c k).data = s.data ∧ (s.postCircuit c k).done = s.done
      ∧ (s.postCircuit c k).collide = s.collide ∧ (s.postCircuit c k).command = s.command
      ∧ (s.postCircuit c k).settings = s.settings ∧ (s.postCircuit c k).held = s.held
      ∧ (s.postCircuit c k).powering = s.powering ∧ (s.postCircuit c k).pending = s.pending
      ∧ (∀ d, (s.postCircuit c k).circuit d = s.circuit d)
      ∧ (∀ d, (s.postCircuit c k).record d = s.record d)
      ∧ (∀ m, (s.postCircuit c k).link m = s.link m) := by
    exact ⟨rfl, rfl, rfl, rfl, rfl, rfl, rfl, rfl, rfl, rfl, rfl, rfl, rfl, rfl, rfl, rfl, rfl,
    rfl, rfl, fun _ => rfl, fun _ => rfl, fun _ => rfl⟩

/-- A posting for a link changes its pending set and the notice list alone (R153). -/
@[simp] theorem State.postLink_frame (s : State) (l : LinkNo) (k : LinkNotice) :
    (s.postLink l k).circuits = s.circuits ∧ (s.postLink l k).services = s.services
      ∧ (s.postLink l k).reservationTotal = s.reservationTotal
      ∧ (s.postLink l k).cellsHeld = s.cellsHeld ∧ (s.postLink l k).txFree = s.txFree
      ∧ (s.postLink l k).links = s.links ∧ (s.postLink l k).circuitNotices = s.circuitNotices
      ∧ (s.postLink l k).noticeEnable = s.noticeEnable
      ∧ (s.postLink l k).completionEnable = s.completionEnable ∧ (s.postLink l k).word0 = s.word0
      ∧ (s.postLink l k).args = s.args ∧ (s.postLink l k).data = s.data
      ∧ (s.postLink l k).done = s.done ∧ (s.postLink l k).collide = s.collide
      ∧ (s.postLink l k).command = s.command ∧ (s.postLink l k).settings = s.settings
      ∧ (s.postLink l k).held = s.held ∧ (s.postLink l k).powering = s.powering
      ∧ (s.postLink l k).pending = s.pending ∧ (∀ d, (s.postLink l k).circuit d = s.circuit d)
      ∧ (∀ d, (s.postLink l k).record d = s.record d) ∧ (∀ m, (s.postLink l k).link m = s.link m) := by
    exact ⟨rfl, rfl, rfl, rfl, rfl, rfl, rfl, rfl, rfl, rfl, rfl, rfl, rfl, rfl, rfl, rfl, rfl,
    rfl, rfl, fun _ => rfl, fun _ => rfl, fun _ => rfl⟩

/-- A removal changes the circuit's pending set and the notice list alone (R157). -/
@[simp] theorem State.dropNotices_frame (s : State) (c : CircuitNo) :
    (s.dropNotices c).circuits = s.circuits ∧ (s.dropNotices c).services = s.services
      ∧ (s.dropNotices c).reservationTotal = s.reservationTotal
      ∧ (s.dropNotices c).cellsHeld = s.cellsHeld ∧ (s.dropNotices c).txFree = s.txFree
      ∧ (s.dropNotices c).links = s.links ∧ (s.dropNotices c).linkNotices = s.linkNotices
      ∧ (s.dropNotices c).noticeEnable = s.noticeEnable
      ∧ (s.dropNotices c).completionEnable = s.completionEnable
      ∧ (s.dropNotices c).word0 = s.word0 ∧ (s.dropNotices c).args = s.args
      ∧ (s.dropNotices c).data = s.data ∧ (s.dropNotices c).done = s.done
      ∧ (s.dropNotices c).collide = s.collide ∧ (s.dropNotices c).command = s.command
      ∧ (s.dropNotices c).settings = s.settings ∧ (s.dropNotices c).held = s.held
      ∧ (s.dropNotices c).powering = s.powering ∧ (s.dropNotices c).pending = s.pending
      ∧ (∀ d, (s.dropNotices c).circuit d = s.circuit d)
      ∧ (∀ d, (s.dropNotices c).record d = s.record d)
      ∧ (∀ m, (s.dropNotices c).link m = s.link m) := by
    exact ⟨rfl, rfl, rfl, rfl, rfl, rfl, rfl, rfl, rfl, rfl, rfl, rfl, rfl, rfl, rfl, rfl, rfl,
    rfl, rfl, fun _ => rfl, fun _ => rfl, fun _ => rfl⟩

/-- Joining a control list changes the links alone. -/
@[simp] theorem State.joinControl_frame (s : State) (l : LinkNo) (c : CircuitNo) :
    (s.joinControl l c).circuits = s.circuits ∧ (s.joinControl l c).services = s.services
      ∧ (s.joinControl l c).reservationTotal = s.reservationTotal
      ∧ (s.joinControl l c).cellsHeld = s.cellsHeld ∧ (s.joinControl l c).txFree = s.txFree
      ∧ (s.joinControl l c).circuitNotices = s.circuitNotices
      ∧ (s.joinControl l c).linkNotices = s.linkNotices
      ∧ (s.joinControl l c).noticeList = s.noticeList
      ∧ (s.joinControl l c).noticeEnable = s.noticeEnable
      ∧ (s.joinControl l c).completionEnable = s.completionEnable
      ∧ (s.joinControl l c).word0 = s.word0 ∧ (s.joinControl l c).args = s.args
      ∧ (s.joinControl l c).data = s.data ∧ (s.joinControl l c).done = s.done
      ∧ (s.joinControl l c).collide = s.collide ∧ (s.joinControl l c).command = s.command
      ∧ (s.joinControl l c).settings = s.settings ∧ (s.joinControl l c).held = s.held
      ∧ (s.joinControl l c).powering = s.powering ∧ (s.joinControl l c).pending = s.pending
      ∧ (∀ d, (s.joinControl l c).circuit d = s.circuit d)
      ∧ (∀ d, (s.joinControl l c).record d = s.record d) := by
    exact ⟨rfl, rfl, rfl, rfl, rfl, rfl, rfl, rfl, rfl, rfl, rfl, rfl, rfl, rfl, rfl, rfl, rfl,
    rfl, rfl, rfl, fun _ => rfl, fun _ => rfl⟩

/-- Leaving a control list changes the links alone. -/
@[simp] theorem State.leaveControl_frame (s : State) (l : LinkNo) (c : CircuitNo) :
    (s.leaveControl l c).circuits = s.circuits ∧ (s.leaveControl l c).services = s.services
      ∧ (s.leaveControl l c).reservationTotal = s.reservationTotal
      ∧ (s.leaveControl l c).cellsHeld = s.cellsHeld ∧ (s.leaveControl l c).txFree = s.txFree
      ∧ (s.leaveControl l c).circuitNotices = s.circuitNotices
      ∧ (s.leaveControl l c).linkNotices = s.linkNotices
      ∧ (s.leaveControl l c).noticeList = s.noticeList
      ∧ (s.leaveControl l c).noticeEnable = s.noticeEnable
      ∧ (s.leaveControl l c).completionEnable = s.completionEnable
      ∧ (s.leaveControl l c).word0 = s.word0 ∧ (s.leaveControl l c).args = s.args
      ∧ (s.leaveControl l c).data = s.data ∧ (s.leaveControl l c).done = s.done
      ∧ (s.leaveControl l c).collide = s.collide ∧ (s.leaveControl l c).command = s.command
      ∧ (s.leaveControl l c).settings = s.settings ∧ (s.leaveControl l c).held = s.held
      ∧ (s.leaveControl l c).powering = s.powering ∧ (s.leaveControl l c).pending = s.pending
      ∧ (∀ d, (s.leaveControl l c).circuit d = s.circuit d)
      ∧ (∀ d, (s.leaveControl l c).record d = s.record d) := by
    exact ⟨rfl, rfl, rfl, rfl, rfl, rfl, rfl, rfl, rfl, rfl, rfl, rfl, rfl, rfl, rfl, rfl, rfl,
    rfl, rfl, rfl, fun _ => rfl, fun _ => rfl⟩

/-- An answer item changes the links alone (R134). -/
@[simp] theorem State.answer_frame (s : State) (l : LinkNo) (item : AnswerItem) :
    (s.answer l item).circuits = s.circuits ∧ (s.answer l item).services = s.services
      ∧ (s.answer l item).reservationTotal = s.reservationTotal
      ∧ (s.answer l item).cellsHeld = s.cellsHeld ∧ (s.answer l item).txFree = s.txFree
      ∧ (s.answer l item).circuitNotices = s.circuitNotices
      ∧ (s.answer l item).linkNotices = s.linkNotices
      ∧ (s.answer l item).noticeList = s.noticeList
      ∧ (s.answer l item).noticeEnable = s.noticeEnable
      ∧ (s.answer l item).completionEnable = s.completionEnable
      ∧ (s.answer l item).word0 = s.word0 ∧ (s.answer l item).args = s.args
      ∧ (s.answer l item).data = s.data ∧ (s.answer l item).done = s.done
      ∧ (s.answer l item).collide = s.collide ∧ (s.answer l item).command = s.command
      ∧ (s.answer l item).settings = s.settings ∧ (s.answer l item).held = s.held
      ∧ (s.answer l item).powering = s.powering ∧ (s.answer l item).pending = s.pending
      ∧ (∀ d, (s.answer l item).circuit d = s.circuit d)
      ∧ (∀ d, (s.answer l item).record d = s.record d) := by
    exact ⟨rfl, rfl, rfl, rfl, rfl, rfl, rfl, rfl, rfl, rfl, rfl, rfl, rfl, rfl, rfl, rfl, rfl,
    rfl, rfl, rfl, fun _ => rfl, fun _ => rfl⟩

/-- Changing an entry changes the Service Table alone. -/
@[simp] theorem State.onService_frame (s : State) (n : Byte) (f : Service → Service) :
    (s.onService n f).circuits = s.circuits
      ∧ (s.onService n f).reservationTotal = s.reservationTotal
      ∧ (s.onService n f).cellsHeld = s.cellsHeld ∧ (s.onService n f).txFree = s.txFree
      ∧ (s.onService n f).links = s.links ∧ (s.onService n f).circuitNotices = s.circuitNotices
      ∧ (s.onService n f).linkNotices = s.linkNotices
      ∧ (s.onService n f).noticeList = s.noticeList
      ∧ (s.onService n f).noticeEnable = s.noticeEnable
      ∧ (s.onService n f).completionEnable = s.completionEnable
      ∧ (s.onService n f).word0 = s.word0 ∧ (s.onService n f).args = s.args
      ∧ (s.onService n f).data = s.data ∧ (s.onService n f).done = s.done
      ∧ (s.onService n f).collide = s.collide ∧ (s.onService n f).command = s.command
      ∧ (s.onService n f).settings = s.settings ∧ (s.onService n f).held = s.held
      ∧ (s.onService n f).powering = s.powering ∧ (s.onService n f).pending = s.pending
      ∧ (∀ d, (s.onService n f).circuit d = s.circuit d)
      ∧ (∀ d, (s.onService n f).record d = s.record d)
      ∧ (∀ m, (s.onService n f).link m = s.link m) := by
    exact ⟨rfl, rfl, rfl, rfl, rfl, rfl, rfl, rfl, rfl, rfl, rfl, rfl, rfl, rfl, rfl, rfl, rfl,
    rfl, rfl, rfl, fun _ => rfl, fun _ => rfl, fun _ => rfl⟩

/-- The start of a frame itself changes the links alone. -/
@[simp] theorem State.startFrame_frame (s : State) (l : LinkNo) (f : Frame) :
    (s.startFrame l f).circuits = s.circuits ∧ (s.startFrame l f).services = s.services
      ∧ (s.startFrame l f).reservationTotal = s.reservationTotal
      ∧ (s.startFrame l f).cellsHeld = s.cellsHeld ∧ (s.startFrame l f).txFree = s.txFree
      ∧ (s.startFrame l f).circuitNotices = s.circuitNotices
      ∧ (s.startFrame l f).linkNotices = s.linkNotices
      ∧ (s.startFrame l f).noticeList = s.noticeList
      ∧ (s.startFrame l f).noticeEnable = s.noticeEnable
      ∧ (s.startFrame l f).completionEnable = s.completionEnable
      ∧ (s.startFrame l f).word0 = s.word0 ∧ (s.startFrame l f).args = s.args
      ∧ (s.startFrame l f).data = s.data ∧ (s.startFrame l f).done = s.done
      ∧ (s.startFrame l f).collide = s.collide ∧ (s.startFrame l f).command = s.command
      ∧ (s.startFrame l f).settings = s.settings ∧ (s.startFrame l f).held = s.held
      ∧ (s.startFrame l f).powering = s.powering ∧ (s.startFrame l f).pending = s.pending
      ∧ (∀ d, (s.startFrame l f).circuit d = s.circuit d)
      ∧ (∀ d, (s.startFrame l f).record d = s.record d) := by
    exact ⟨rfl, rfl, rfl, rfl, rfl, rfl, rfl, rfl, rfl, rfl, rfl, rfl, rfl, rfl, rfl, rfl, rfl,
    rfl, rfl, rfl, fun _ => rfl, fun _ => rfl⟩

/-- The start of a HELLO changes the links alone (R103). -/
@[simp] theorem State.startHello_frame (s : State) (l : LinkNo) :
    (s.startHello l).circuits = s.circuits ∧ (s.startHello l).services = s.services
      ∧ (s.startHello l).reservationTotal = s.reservationTotal
      ∧ (s.startHello l).cellsHeld = s.cellsHeld ∧ (s.startHello l).txFree = s.txFree
      ∧ (s.startHello l).circuitNotices = s.circuitNotices
      ∧ (s.startHello l).linkNotices = s.linkNotices ∧ (s.startHello l).noticeList = s.noticeList
      ∧ (s.startHello l).noticeEnable = s.noticeEnable
      ∧ (s.startHello l).completionEnable = s.completionEnable ∧ (s.startHello l).word0 = s.word0
      ∧ (s.startHello l).args = s.args ∧ (s.startHello l).data = s.data
      ∧ (s.startHello l).done = s.done ∧ (s.startHello l).collide = s.collide
      ∧ (s.startHello l).command = s.command ∧ (s.startHello l).settings = s.settings
      ∧ (s.startHello l).held = s.held ∧ (s.startHello l).powering = s.powering
      ∧ (s.startHello l).pending = s.pending ∧ (∀ d, (s.startHello l).circuit d = s.circuit d)
      ∧ (∀ d, (s.startHello l).record d = s.record d) := by
    exact ⟨rfl, rfl, rfl, rfl, rfl, rfl, rfl, rfl, rfl, rfl, rfl, rfl, rfl, rfl, rfl, rfl, rfl,
    rfl, rfl, rfl, fun _ => rfl, fun _ => rfl⟩

/-- The start of an answer reads and changes no record (R106). -/
@[simp] theorem State.startAnswer_frame (s : State) (l : LinkNo) (i : AnswerItem) (rest : List AnswerItem) :
    (s.startAnswer l i rest).circuits = s.circuits
      ∧ (s.startAnswer l i rest).services = s.services
      ∧ (s.startAnswer l i rest).reservationTotal = s.reservationTotal
      ∧ (s.startAnswer l i rest).cellsHeld = s.cellsHeld
      ∧ (s.startAnswer l i rest).txFree = s.txFree
      ∧ (s.startAnswer l i rest).circuitNotices = s.circuitNotices
      ∧ (s.startAnswer l i rest).linkNotices = s.linkNotices
      ∧ (s.startAnswer l i rest).noticeList = s.noticeList
      ∧ (s.startAnswer l i rest).noticeEnable = s.noticeEnable
      ∧ (s.startAnswer l i rest).completionEnable = s.completionEnable
      ∧ (s.startAnswer l i rest).word0 = s.word0 ∧ (s.startAnswer l i rest).args = s.args
      ∧ (s.startAnswer l i rest).data = s.data ∧ (s.startAnswer l i rest).done = s.done
      ∧ (s.startAnswer l i rest).collide = s.collide
      ∧ (s.startAnswer l i rest).command = s.command
      ∧ (s.startAnswer l i rest).settings = s.settings ∧ (s.startAnswer l i rest).held = s.held
      ∧ (s.startAnswer l i rest).powering = s.powering
      ∧ (s.startAnswer l i rest).pending = s.pending
      ∧ (∀ d, (s.startAnswer l i rest).circuit d = s.circuit d)
      ∧ (∀ d, (s.startAnswer l i rest).record d = s.record d) := by
    exact ⟨rfl, rfl, rfl, rfl, rfl, rfl, rfl, rfl, rfl, rfl, rfl, rfl, rfl, rfl, rfl, rfl, rfl,
    rfl, rfl, rfl, fun _ => rfl, fun _ => rfl⟩

/-- An allocation changes the table and the reservation total alone (R17). -/
@[simp] theorem State.allocate_frame (s : State) (c : CircuitNo) (a : Allocation) :
    (s.allocate c a).services = s.services ∧ (s.allocate c a).cellsHeld = s.cellsHeld
      ∧ (s.allocate c a).txFree = s.txFree ∧ (s.allocate c a).links = s.links
      ∧ (s.allocate c a).circuitNotices = s.circuitNotices
      ∧ (s.allocate c a).linkNotices = s.linkNotices ∧ (s.allocate c a).noticeList = s.noticeList
      ∧ (s.allocate c a).noticeEnable = s.noticeEnable
      ∧ (s.allocate c a).completionEnable = s.completionEnable ∧ (s.allocate c a).word0 = s.word0
      ∧ (s.allocate c a).args = s.args ∧ (s.allocate c a).data = s.data
      ∧ (s.allocate c a).done = s.done ∧ (s.allocate c a).collide = s.collide
      ∧ (s.allocate c a).command = s.command ∧ (s.allocate c a).settings = s.settings
      ∧ (s.allocate c a).held = s.held ∧ (s.allocate c a).powering = s.powering
      ∧ (s.allocate c a).pending = s.pending ∧ (∀ m, (s.allocate c a).link m = s.link m) := by
    exact ⟨rfl, rfl, rfl, rfl, rfl, rfl, rfl, rfl, rfl, rfl, rfl, rfl, rfl, rfl, rfl, rfl, rfl,
    rfl, rfl, fun _ => rfl⟩

/-- What a receiver turns to changes the links alone (R145). -/
@[simp] theorem State.setReceiver_frame (s : State) (l : LinkNo) (r : ReceiverState) :
    (s.setReceiver l r).circuits = s.circuits ∧ (s.setReceiver l r).services = s.services
      ∧ (s.setReceiver l r).reservationTotal = s.reservationTotal
      ∧ (s.setReceiver l r).cellsHeld = s.cellsHeld ∧ (s.setReceiver l r).txFree = s.txFree
      ∧ (s.setReceiver l r).circuitNotices = s.circuitNotices
      ∧ (s.setReceiver l r).linkNotices = s.linkNotices
      ∧ (s.setReceiver l r).noticeList = s.noticeList
      ∧ (s.setReceiver l r).noticeEnable = s.noticeEnable
      ∧ (s.setReceiver l r).completionEnable = s.completionEnable
      ∧ (s.setReceiver l r).word0 = s.word0 ∧ (s.setReceiver l r).args = s.args
      ∧ (s.setReceiver l r).data = s.data ∧ (s.setReceiver l r).done = s.done
      ∧ (s.setReceiver l r).collide = s.collide ∧ (s.setReceiver l r).command = s.command
      ∧ (s.setReceiver l r).settings = s.settings ∧ (s.setReceiver l r).held = s.held
      ∧ (s.setReceiver l r).powering = s.powering ∧ (s.setReceiver l r).pending = s.pending
      ∧ (∀ d, (s.setReceiver l r).circuit d = s.circuit d)
      ∧ (∀ d, (s.setReceiver l r).record d = s.record d) := by
    exact ⟨rfl, rfl, rfl, rfl, rfl, rfl, rfl, rfl, rfl, rfl, rfl, rfl, rfl, rfl, rfl, rfl, rfl,
    rfl, rfl, rfl, fun _ => rfl, fun _ => rfl⟩

/-- A fault changes the link and its notices alone (R120). -/
@[simp] theorem State.recordFault_frame (s : State) (l : LinkNo) (x : FaultCause) :
    (s.recordFault l x).circuits = s.circuits ∧ (s.recordFault l x).services = s.services
      ∧ (s.recordFault l x).reservationTotal = s.reservationTotal
      ∧ (s.recordFault l x).cellsHeld = s.cellsHeld ∧ (s.recordFault l x).txFree = s.txFree
      ∧ (s.recordFault l x).circuitNotices = s.circuitNotices
      ∧ (s.recordFault l x).noticeEnable = s.noticeEnable
      ∧ (s.recordFault l x).completionEnable = s.completionEnable
      ∧ (s.recordFault l x).word0 = s.word0 ∧ (s.recordFault l x).args = s.args
      ∧ (s.recordFault l x).data = s.data ∧ (s.recordFault l x).done = s.done
      ∧ (s.recordFault l x).collide = s.collide ∧ (s.recordFault l x).command = s.command
      ∧ (s.recordFault l x).settings = s.settings ∧ (s.recordFault l x).held = s.held
      ∧ (s.recordFault l x).powering = s.powering ∧ (s.recordFault l x).pending = s.pending
      ∧ (∀ d, (s.recordFault l x).circuit d = s.circuit d)
      ∧ (∀ d, (s.recordFault l x).record d = s.record d) := by
    exact ⟨rfl, rfl, rfl, rfl, rfl, rfl, rfl, rfl, rfl, rfl, rfl, rfl, rfl, rfl, rfl, rfl, rfl,
    rfl, fun _ => rfl, fun _ => rfl⟩

/-! ### Operations that look at a record first -/

/-- Uncounting changes the Service Table alone (R26). -/
@[simp] theorem State.uncount_frame (s : State) (r : Record) :
    (s.uncount r).circuits = s.circuits ∧ (s.uncount r).reservationTotal = s.reservationTotal
      ∧ (s.uncount r).cellsHeld = s.cellsHeld ∧ (s.uncount r).txFree = s.txFree
      ∧ (s.uncount r).links = s.links ∧ (s.uncount r).circuitNotices = s.circuitNotices
      ∧ (s.uncount r).linkNotices = s.linkNotices ∧ (s.uncount r).noticeList = s.noticeList
      ∧ (s.uncount r).noticeEnable = s.noticeEnable
      ∧ (s.uncount r).completionEnable = s.completionEnable ∧ (s.uncount r).word0 = s.word0
      ∧ (s.uncount r).args = s.args ∧ (s.uncount r).data = s.data ∧ (s.uncount r).done = s.done
      ∧ (s.uncount r).collide = s.collide ∧ (s.uncount r).command = s.command
      ∧ (s.uncount r).settings = s.settings ∧ (s.uncount r).held = s.held
      ∧ (s.uncount r).powering = s.powering ∧ (s.uncount r).pending = s.pending
      ∧ (∀ d, (s.uncount r).circuit d = s.circuit d) ∧ (∀ d, (s.uncount r).record d = s.record d)
      ∧ (∀ m, (s.uncount r).link m = s.link m) := by
  unfold State.uncount; split <;> simp

/-- What a smaller owed set changes (R135). -/
@[simp] theorem State.putLessOwed_frame (s : State) (c : CircuitNo) (r : Record) :
    (s.putLessOwed c r).services = s.services
      ∧ (s.putLessOwed c r).reservationTotal = s.reservationTotal
      ∧ (s.putLessOwed c r).cellsHeld = s.cellsHeld ∧ (s.putLessOwed c r).txFree = s.txFree
      ∧ (s.putLessOwed c r).circuitNotices = s.circuitNotices
      ∧ (s.putLessOwed c r).linkNotices = s.linkNotices
      ∧ (s.putLessOwed c r).noticeList = s.noticeList
      ∧ (s.putLessOwed c r).noticeEnable = s.noticeEnable
      ∧ (s.putLessOwed c r).completionEnable = s.completionEnable
      ∧ (s.putLessOwed c r).word0 = s.word0 ∧ (s.putLessOwed c r).args = s.args
      ∧ (s.putLessOwed c r).data = s.data ∧ (s.putLessOwed c r).done = s.done
      ∧ (s.putLessOwed c r).collide = s.collide ∧ (s.putLessOwed c r).command = s.command
      ∧ (s.putLessOwed c r).settings = s.settings ∧ (s.putLessOwed c r).held = s.held
      ∧ (s.putLessOwed c r).powering = s.powering ∧ (s.putLessOwed c r).pending = s.pending := by
  unfold State.putLessOwed; split <;> simp

/-- What owing a kind changes (R8). -/
@[simp] theorem State.owe_frame (s : State) (c : CircuitNo) (k : ControlKind) :
    (s.owe c k).services = s.services ∧ (s.owe c k).reservationTotal = s.reservationTotal
      ∧ (s.owe c k).cellsHeld = s.cellsHeld ∧ (s.owe c k).txFree = s.txFree
      ∧ (s.owe c k).circuitNotices = s.circuitNotices ∧ (s.owe c k).linkNotices = s.linkNotices
      ∧ (s.owe c k).noticeList = s.noticeList ∧ (s.owe c k).noticeEnable = s.noticeEnable
      ∧ (s.owe c k).completionEnable = s.completionEnable ∧ (s.owe c k).word0 = s.word0
      ∧ (s.owe c k).args = s.args ∧ (s.owe c k).data = s.data ∧ (s.owe c k).done = s.done
      ∧ (s.owe c k).collide = s.collide ∧ (s.owe c k).command = s.command
      ∧ (s.owe c k).settings = s.settings ∧ (s.owe c k).held = s.held
      ∧ (s.owe c k).powering = s.powering ∧ (s.owe c k).pending = s.pending := by
  unfold State.owe; split
  · simp
  · split <;> simp

/-- What removing an owed kind changes (R8). -/
@[simp] theorem State.disown_frame (s : State) (c : CircuitNo) (k : ControlKind) :
    (s.disown c k).services = s.services ∧ (s.disown c k).reservationTotal = s.reservationTotal
      ∧ (s.disown c k).cellsHeld = s.cellsHeld ∧ (s.disown c k).txFree = s.txFree
      ∧ (s.disown c k).circuitNotices = s.circuitNotices
      ∧ (s.disown c k).linkNotices = s.linkNotices ∧ (s.disown c k).noticeList = s.noticeList
      ∧ (s.disown c k).noticeEnable = s.noticeEnable
      ∧ (s.disown c k).completionEnable = s.completionEnable ∧ (s.disown c k).word0 = s.word0
      ∧ (s.disown c k).args = s.args ∧ (s.disown c k).data = s.data
      ∧ (s.disown c k).done = s.done ∧ (s.disown c k).collide = s.collide
      ∧ (s.disown c k).command = s.command ∧ (s.disown c k).settings = s.settings
      ∧ (s.disown c k).held = s.held ∧ (s.disown c k).powering = s.powering
      ∧ (s.disown c k).pending = s.pending := by
  unfold State.disown; split <;> simp

/-- What an ending changes (R14). -/
@[simp] theorem State.endCircuit_frame (s : State) (c : CircuitNo) (e : EndCause) (d : Option Byte) :
    (s.endCircuit c e d).reservationTotal = s.reservationTotal
      ∧ (s.endCircuit c e d).cellsHeld = s.cellsHeld
      ∧ (s.endCircuit c e d).linkNotices = s.linkNotices
      ∧ (s.endCircuit c e d).noticeEnable = s.noticeEnable
      ∧ (s.endCircuit c e d).completionEnable = s.completionEnable
      ∧ (s.endCircuit c e d).word0 = s.word0 ∧ (s.endCircuit c e d).args = s.args
      ∧ (s.endCircuit c e d).data = s.data ∧ (s.endCircuit c e d).done = s.done
      ∧ (s.endCircuit c e d).collide = s.collide ∧ (s.endCircuit c e d).command = s.command
      ∧ (s.endCircuit c e d).settings = s.settings ∧ (s.endCircuit c e d).held = s.held
      ∧ (s.endCircuit c e d).powering = s.powering ∧ (s.endCircuit c e d).pending = s.pending := by
  unfold State.endCircuit; split <;> simp

/-- What a supersede changes (R36). -/
@[simp] theorem State.supersede_frame (s : State) (c : CircuitNo) :
    (s.supersede c).reservationTotal = s.reservationTotal
      ∧ (s.supersede c).cellsHeld = s.cellsHeld ∧ (s.supersede c).linkNotices = s.linkNotices
      ∧ (s.supersede c).noticeEnable = s.noticeEnable
      ∧ (s.supersede c).completionEnable = s.completionEnable ∧ (s.supersede c).word0 = s.word0
      ∧ (s.supersede c).args = s.args ∧ (s.supersede c).data = s.data
      ∧ (s.supersede c).done = s.done ∧ (s.supersede c).collide = s.collide
      ∧ (s.supersede c).command = s.command ∧ (s.supersede c).settings = s.settings
      ∧ (s.supersede c).held = s.held ∧ (s.supersede c).powering = s.powering
      ∧ (s.supersede c).pending = s.pending := by
  simp [State.supersede]

/-- What a forced close changes (R66). -/
@[simp] theorem State.forceClose_frame (s : State) (c : CircuitNo) (x : CloseReason) :
    (s.forceClose c x).services = s.services
      ∧ (s.forceClose c x).reservationTotal = s.reservationTotal
      ∧ (s.forceClose c x).cellsHeld = s.cellsHeld
      ∧ (s.forceClose c x).circuitNotices = s.circuitNotices
      ∧ (s.forceClose c x).linkNotices = s.linkNotices
      ∧ (s.forceClose c x).noticeList = s.noticeList
      ∧ (s.forceClose c x).noticeEnable = s.noticeEnable
      ∧ (s.forceClose c x).completionEnable = s.completionEnable
      ∧ (s.forceClose c x).word0 = s.word0 ∧ (s.forceClose c x).args = s.args
      ∧ (s.forceClose c x).data = s.data ∧ (s.forceClose c x).done = s.done
      ∧ (s.forceClose c x).collide = s.collide ∧ (s.forceClose c x).command = s.command
      ∧ (s.forceClose c x).settings = s.settings ∧ (s.forceClose c x).held = s.held
      ∧ (s.forceClose c x).powering = s.powering ∧ (s.forceClose c x).pending = s.pending := by
  unfold State.forceClose; split
  · simp
  · split <;> simp

/-- What entering CLOSING for a graceful close changes (R56, R57). -/
@[simp] theorem State.beginClosing_frame (s : State) (c : CircuitNo) :
    (s.beginClosing c).services = s.services
      ∧ (s.beginClosing c).reservationTotal = s.reservationTotal
      ∧ (s.beginClosing c).cellsHeld = s.cellsHeld ∧ (s.beginClosing c).txFree = s.txFree
      ∧ (s.beginClosing c).circuitNotices = s.circuitNotices
      ∧ (s.beginClosing c).linkNotices = s.linkNotices
      ∧ (s.beginClosing c).noticeList = s.noticeList
      ∧ (s.beginClosing c).noticeEnable = s.noticeEnable
      ∧ (s.beginClosing c).completionEnable = s.completionEnable
      ∧ (s.beginClosing c).word0 = s.word0 ∧ (s.beginClosing c).args = s.args
      ∧ (s.beginClosing c).data = s.data ∧ (s.beginClosing c).done = s.done
      ∧ (s.beginClosing c).collide = s.collide ∧ (s.beginClosing c).command = s.command
      ∧ (s.beginClosing c).settings = s.settings ∧ (s.beginClosing c).held = s.held
      ∧ (s.beginClosing c).powering = s.powering ∧ (s.beginClosing c).pending = s.pending := by
  unfold State.beginClosing; split <;> simp

/-- What going to FREE changes (R20). -/
@[simp] theorem State.freeCircuit_frame (s : State) (c : CircuitNo) :
    (s.freeCircuit c).services = s.services ∧ (s.freeCircuit c).txFree = s.txFree
      ∧ (s.freeCircuit c).linkNotices = s.linkNotices
      ∧ (s.freeCircuit c).noticeEnable = s.noticeEnable
      ∧ (s.freeCircuit c).completionEnable = s.completionEnable
      ∧ (s.freeCircuit c).word0 = s.word0 ∧ (s.freeCircuit c).args = s.args
      ∧ (s.freeCircuit c).data = s.data ∧ (s.freeCircuit c).done = s.done
      ∧ (s.freeCircuit c).collide = s.collide ∧ (s.freeCircuit c).command = s.command
      ∧ (s.freeCircuit c).settings = s.settings ∧ (s.freeCircuit c).held = s.held
      ∧ (s.freeCircuit c).powering = s.powering ∧ (s.freeCircuit c).pending = s.pending := by
  unfold State.freeCircuit; split <;> simp

/-- What the refusal of an offer changes (R44). -/
@[simp] theorem State.refuseOffer_frame (s : State) (c : CircuitNo) (x : Byte) :
    (s.refuseOffer c x).txFree = s.txFree ∧ (s.refuseOffer c x).linkNotices = s.linkNotices
      ∧ (s.refuseOffer c x).noticeEnable = s.noticeEnable
      ∧ (s.refuseOffer c x).completionEnable = s.completionEnable
      ∧ (s.refuseOffer c x).word0 = s.word0 ∧ (s.refuseOffer c x).args = s.args
      ∧ (s.refuseOffer c x).data = s.data ∧ (s.refuseOffer c x).done = s.done
      ∧ (s.refuseOffer c x).collide = s.collide ∧ (s.refuseOffer c x).command = s.command
      ∧ (s.refuseOffer c x).settings = s.settings ∧ (s.refuseOffer c x).held = s.held
      ∧ (s.refuseOffer c x).powering = s.powering ∧ (s.refuseOffer c x).pending = s.pending := by
  unfold State.refuseOffer; split <;> simp

/-- What the ROOM rule changes for one circuit (R99). -/
@[simp] theorem State.roomNotice_frame (s : State) (c : CircuitNo) :
    (s.roomNotice c).services = s.services
      ∧ (s.roomNotice c).reservationTotal = s.reservationTotal
      ∧ (s.roomNotice c).cellsHeld = s.cellsHeld ∧ (s.roomNotice c).txFree = s.txFree
      ∧ (s.roomNotice c).links = s.links ∧ (s.roomNotice c).linkNotices = s.linkNotices
      ∧ (s.roomNotice c).noticeEnable = s.noticeEnable
      ∧ (s.roomNotice c).completionEnable = s.completionEnable ∧ (s.roomNotice c).word0 = s.word0
      ∧ (s.roomNotice c).args = s.args ∧ (s.roomNotice c).data = s.data
      ∧ (s.roomNotice c).done = s.done ∧ (s.roomNotice c).collide = s.collide
      ∧ (s.roomNotice c).command = s.command ∧ (s.roomNotice c).settings = s.settings
      ∧ (s.roomNotice c).held = s.held ∧ (s.roomNotice c).powering = s.powering
      ∧ (s.roomNotice c).pending = s.pending ∧ (∀ m, (s.roomNotice c).link m = s.link m) := by
  unfold State.roomNotice; split
  · simp
  · split <;> simp

/-- What emptying a line changes (R109, R111). -/
@[simp] theorem State.clearLine_frame (s : State) (l : LinkNo) :
    (s.clearLine l).circuits = s.circuits ∧ (s.clearLine l).services = s.services
      ∧ (s.clearLine l).reservationTotal = s.reservationTotal
      ∧ (s.clearLine l).cellsHeld = s.cellsHeld
      ∧ (s.clearLine l).circuitNotices = s.circuitNotices
      ∧ (s.clearLine l).linkNotices = s.linkNotices ∧ (s.clearLine l).noticeList = s.noticeList
      ∧ (s.clearLine l).noticeEnable = s.noticeEnable
      ∧ (s.clearLine l).completionEnable = s.completionEnable ∧ (s.clearLine l).word0 = s.word0
      ∧ (s.clearLine l).args = s.args ∧ (s.clearLine l).data = s.data
      ∧ (s.clearLine l).done = s.done ∧ (s.clearLine l).collide = s.collide
      ∧ (s.clearLine l).command = s.command ∧ (s.clearLine l).settings = s.settings
      ∧ (s.clearLine l).held = s.held ∧ (s.clearLine l).powering = s.powering
      ∧ (s.clearLine l).pending = s.pending ∧ (∀ d, (s.clearLine l).circuit d = s.circuit d)
      ∧ (∀ d, (s.clearLine l).record d = s.record d) := by
  unfold State.clearLine; split
  · simp
  · dsimp only; split <;> simp [State.record, State.circuit]

/-- What the end of a frame itself changes (R109). -/
@[simp] theorem State.endFrame_frame (s : State) (l : LinkNo) :
    (s.endFrame l).circuits = s.circuits ∧ (s.endFrame l).services = s.services
      ∧ (s.endFrame l).reservationTotal = s.reservationTotal
      ∧ (s.endFrame l).cellsHeld = s.cellsHeld ∧ (s.endFrame l).circuitNotices = s.circuitNotices
      ∧ (s.endFrame l).linkNotices = s.linkNotices ∧ (s.endFrame l).noticeList = s.noticeList
      ∧ (s.endFrame l).noticeEnable = s.noticeEnable
      ∧ (s.endFrame l).completionEnable = s.completionEnable ∧ (s.endFrame l).word0 = s.word0
      ∧ (s.endFrame l).args = s.args ∧ (s.endFrame l).data = s.data
      ∧ (s.endFrame l).done = s.done ∧ (s.endFrame l).collide = s.collide
      ∧ (s.endFrame l).command = s.command ∧ (s.endFrame l).settings = s.settings
      ∧ (s.endFrame l).held = s.held ∧ (s.endFrame l).powering = s.powering
      ∧ (s.endFrame l).pending = s.pending ∧ (∀ d, (s.endFrame l).circuit d = s.circuit d)
      ∧ (∀ d, (s.endFrame l).record d = s.record d) := by
  simp [State.endFrame]

/-- What the cut of a frame changes (R111, R148). -/
@[simp] theorem State.cutFrame_frame (s : State) (l : LinkNo) :
    (s.cutFrame l).circuits = s.circuits ∧ (s.cutFrame l).services = s.services
      ∧ (s.cutFrame l).reservationTotal = s.reservationTotal
      ∧ (s.cutFrame l).cellsHeld = s.cellsHeld ∧ (s.cutFrame l).circuitNotices = s.circuitNotices
      ∧ (s.cutFrame l).linkNotices = s.linkNotices ∧ (s.cutFrame l).noticeList = s.noticeList
      ∧ (s.cutFrame l).noticeEnable = s.noticeEnable
      ∧ (s.cutFrame l).completionEnable = s.completionEnable ∧ (s.cutFrame l).word0 = s.word0
      ∧ (s.cutFrame l).args = s.args ∧ (s.cutFrame l).data = s.data
      ∧ (s.cutFrame l).done = s.done ∧ (s.cutFrame l).collide = s.collide
      ∧ (s.cutFrame l).command = s.command ∧ (s.cutFrame l).settings = s.settings
      ∧ (s.cutFrame l).held = s.held ∧ (s.cutFrame l).powering = s.powering
      ∧ (s.cutFrame l).pending = s.pending ∧ (∀ d, (s.cutFrame l).circuit d = s.circuit d)
      ∧ (∀ d, (s.cutFrame l).record d = s.record d) := by
  unfold State.cutFrame; split <;> simp

/-- What the start of a control frame changes (R104, R105). -/
@[simp] theorem State.startControl_frame (s : State) (l : LinkNo) (c : CircuitNo) (rest : List CircuitNo) :
    (s.startControl l c rest).services = s.services
      ∧ (s.startControl l c rest).reservationTotal = s.reservationTotal
      ∧ (s.startControl l c rest).cellsHeld = s.cellsHeld
      ∧ (s.startControl l c rest).txFree = s.txFree
      ∧ (s.startControl l c rest).circuitNotices = s.circuitNotices
      ∧ (s.startControl l c rest).linkNotices = s.linkNotices
      ∧ (s.startControl l c rest).noticeList = s.noticeList
      ∧ (s.startControl l c rest).noticeEnable = s.noticeEnable
      ∧ (s.startControl l c rest).completionEnable = s.completionEnable
      ∧ (s.startControl l c rest).word0 = s.word0 ∧ (s.startControl l c rest).args = s.args
      ∧ (s.startControl l c rest).data = s.data ∧ (s.startControl l c rest).done = s.done
      ∧ (s.startControl l c rest).collide = s.collide
      ∧ (s.startControl l c rest).command = s.command
      ∧ (s.startControl l c rest).settings = s.settings ∧ (s.startControl l c rest).held = s.held
      ∧ (s.startControl l c rest).powering = s.powering
      ∧ (s.startControl l c rest).pending = s.pending := by
  unfold State.startControl; split
  · simp
  · split <;> simp

/-- What the start of a DATA frame changes (R108). -/
@[simp] theorem State.startData_frame (s : State) (l : LinkNo) (p : Fin 4) (c : CircuitNo) :
    (s.startData l p c).services = s.services
      ∧ (s.startData l p c).reservationTotal = s.reservationTotal
      ∧ (s.startData l p c).cellsHeld = s.cellsHeld ∧ (s.startData l p c).txFree = s.txFree
      ∧ (s.startData l p c).circuitNotices = s.circuitNotices
      ∧ (s.startData l p c).linkNotices = s.linkNotices
      ∧ (s.startData l p c).noticeList = s.noticeList
      ∧ (s.startData l p c).noticeEnable = s.noticeEnable
      ∧ (s.startData l p c).completionEnable = s.completionEnable
      ∧ (s.startData l p c).word0 = s.word0 ∧ (s.startData l p c).args = s.args
      ∧ (s.startData l p c).data = s.data ∧ (s.startData l p c).done = s.done
      ∧ (s.startData l p c).collide = s.collide ∧ (s.startData l p c).command = s.command
      ∧ (s.startData l p c).settings = s.settings ∧ (s.startData l p c).held = s.held
      ∧ (s.startData l p c).powering = s.powering ∧ (s.startData l p c).pending = s.pending := by
  unfold State.startData; split
  · simp
  · split
    · simp
    · dsimp only; split <;> simp

/-! ### Operations over every circuit or every link -/

/-- What every step of a loop over the circuits leaves alone, the loop leaves alone. -/
theorem State.forCircuits_keeps {α : Type} (g : State → α) (f : CircuitNo → State → State)
    (h : ∀ c t, g (f c t) = g t) (s : State) : g (s.forCircuits f) = g s := by
  unfold State.forCircuits
  generalize allCircuits = cs
  induction cs generalizing s with
  | nil => rfl
  | cons c cs ih => simp [ih, h]

/-- What a loop over the circuits keeps, once each step keeps it. -/
theorem State.forCircuits_invariant (p : State → Prop) (f : CircuitNo → State → State)
    (h : ∀ c t, p t → p (f c t)) (s : State) (hs : p s) : p (s.forCircuits f) := by
  unfold State.forCircuits
  generalize allCircuits = cs
  induction cs generalizing s with
  | nil => exact hs
  | cons c cs ih => exact ih _ (h c s hs)

/-- What the supersede on taking a peer changes (R52). -/
@[simp] theorem State.supersedeOthers_frame (s : State) (l : LinkNo) (c : CircuitNo) (p : Byte) :
    (s.supersedeOthers l c p).reservationTotal = s.reservationTotal
      ∧ (s.supersedeOthers l c p).cellsHeld = s.cellsHeld
      ∧ (s.supersedeOthers l c p).linkNotices = s.linkNotices
      ∧ (s.supersedeOthers l c p).noticeEnable = s.noticeEnable
      ∧ (s.supersedeOthers l c p).completionEnable = s.completionEnable
      ∧ (s.supersedeOthers l c p).word0 = s.word0 ∧ (s.supersedeOthers l c p).args = s.args
      ∧ (s.supersedeOthers l c p).data = s.data ∧ (s.supersedeOthers l c p).done = s.done
      ∧ (s.supersedeOthers l c p).collide = s.collide
      ∧ (s.supersedeOthers l c p).command = s.command
      ∧ (s.supersedeOthers l c p).settings = s.settings ∧ (s.supersedeOthers l c p).held = s.held
      ∧ (s.supersedeOthers l c p).powering = s.powering
      ∧ (s.supersedeOthers l c p).pending = s.pending := by
  refine ⟨?_, ?_, ?_, ?_, ?_, ?_, ?_, ?_, ?_, ?_, ?_, ?_, ?_, ?_, ?_⟩
  · exact State.forCircuits_keeps (fun t => t.reservationTotal) _ (by
      intro d t; split
      · rfl
      · split <;> simp) s
  · exact State.forCircuits_keeps (fun t => t.cellsHeld) _ (by
      intro d t; split
      · rfl
      · split <;> simp) s
  · exact State.forCircuits_keeps (fun t => t.linkNotices) _ (by
      intro d t; split
      · rfl
      · split <;> simp) s
  · exact State.forCircuits_keeps (fun t => t.noticeEnable) _ (by
      intro d t; split
      · rfl
      · split <;> simp) s
  · exact State.forCircuits_keeps (fun t => t.completionEnable) _ (by
      intro d t; split
      · rfl
      · split <;> simp) s
  · exact State.forCircuits_keeps (fun t => t.word0) _ (by
      intro d t; split
      · rfl
      · split <;> simp) s
  · exact State.forCircuits_keeps (fun t => t.args) _ (by
      intro d t; split
      · rfl
      · split <;> simp) s
  · exact State.forCircuits_keeps (fun t => t.data) _ (by
      intro d t; split
      · rfl
      · split <;> simp) s
  · exact State.forCircuits_keeps (fun t => t.done) _ (by
      intro d t; split
      · rfl
      · split <;> simp) s
  · exact State.forCircuits_keeps (fun t => t.collide) _ (by
      intro d t; split
      · rfl
      · split <;> simp) s
  · exact State.forCircuits_keeps (fun t => t.command) _ (by
      intro d t; split
      · rfl
      · split <;> simp) s
  · exact State.forCircuits_keeps (fun t => t.settings) _ (by
      intro d t; split
      · rfl
      · split <;> simp) s
  · exact State.forCircuits_keeps (fun t => t.held) _ (by
      intro d t; split
      · rfl
      · split <;> simp) s
  · exact State.forCircuits_keeps (fun t => t.powering) _ (by
      intro d t; split
      · rfl
      · split <;> simp) s
  · exact State.forCircuits_keeps (fun t => t.pending) _ (by
      intro d t; split
      · rfl
      · split <;> simp) s

/-- What the endings of a link end change (R127). -/
@[simp] theorem State.endCircuitsOf_frame (s : State) (l : LinkNo) (e : EndCause) :
    (s.endCircuitsOf l e).reservationTotal = s.reservationTotal
      ∧ (s.endCircuitsOf l e).cellsHeld = s.cellsHeld
      ∧ (s.endCircuitsOf l e).linkNotices = s.linkNotices
      ∧ (s.endCircuitsOf l e).noticeEnable = s.noticeEnable
      ∧ (s.endCircuitsOf l e).completionEnable = s.completionEnable
      ∧ (s.endCircuitsOf l e).word0 = s.word0 ∧ (s.endCircuitsOf l e).args = s.args
      ∧ (s.endCircuitsOf l e).data = s.data ∧ (s.endCircuitsOf l e).done = s.done
      ∧ (s.endCircuitsOf l e).collide = s.collide ∧ (s.endCircuitsOf l e).command = s.command
      ∧ (s.endCircuitsOf l e).settings = s.settings ∧ (s.endCircuitsOf l e).held = s.held
      ∧ (s.endCircuitsOf l e).powering = s.powering ∧ (s.endCircuitsOf l e).pending = s.pending := by
  refine ⟨?_, ?_, ?_, ?_, ?_, ?_, ?_, ?_, ?_, ?_, ?_, ?_, ?_, ?_, ?_⟩
  · exact State.forCircuits_keeps (fun t => t.reservationTotal) _ (by
      intro d t; split
      · rfl
      · split
        · split <;> dsimp only <;> split <;> simp
        · rfl) s
  · exact State.forCircuits_keeps (fun t => t.cellsHeld) _ (by
      intro d t; split
      · rfl
      · split
        · split <;> dsimp only <;> split <;> simp
        · rfl) s
  · exact State.forCircuits_keeps (fun t => t.linkNotices) _ (by
      intro d t; split
      · rfl
      · split
        · split <;> dsimp only <;> split <;> simp
        · rfl) s
  · exact State.forCircuits_keeps (fun t => t.noticeEnable) _ (by
      intro d t; split
      · rfl
      · split
        · split <;> dsimp only <;> split <;> simp
        · rfl) s
  · exact State.forCircuits_keeps (fun t => t.completionEnable) _ (by
      intro d t; split
      · rfl
      · split
        · split <;> dsimp only <;> split <;> simp
        · rfl) s
  · exact State.forCircuits_keeps (fun t => t.word0) _ (by
      intro d t; split
      · rfl
      · split
        · split <;> dsimp only <;> split <;> simp
        · rfl) s
  · exact State.forCircuits_keeps (fun t => t.args) _ (by
      intro d t; split
      · rfl
      · split
        · split <;> dsimp only <;> split <;> simp
        · rfl) s
  · exact State.forCircuits_keeps (fun t => t.data) _ (by
      intro d t; split
      · rfl
      · split
        · split <;> dsimp only <;> split <;> simp
        · rfl) s
  · exact State.forCircuits_keeps (fun t => t.done) _ (by
      intro d t; split
      · rfl
      · split
        · split <;> dsimp only <;> split <;> simp
        · rfl) s
  · exact State.forCircuits_keeps (fun t => t.collide) _ (by
      intro d t; split
      · rfl
      · split
        · split <;> dsimp only <;> split <;> simp
        · rfl) s
  · exact State.forCircuits_keeps (fun t => t.command) _ (by
      intro d t; split
      · rfl
      · split
        · split <;> dsimp only <;> split <;> simp
        · rfl) s
  · exact State.forCircuits_keeps (fun t => t.settings) _ (by
      intro d t; split
      · rfl
      · split
        · split <;> dsimp only <;> split <;> simp
        · rfl) s
  · exact State.forCircuits_keeps (fun t => t.held) _ (by
      intro d t; split
      · rfl
      · split
        · split <;> dsimp only <;> split <;> simp
        · rfl) s
  · exact State.forCircuits_keeps (fun t => t.powering) _ (by
      intro d t; split
      · rfl
      · split
        · split <;> dsimp only <;> split <;> simp
        · rfl) s
  · exact State.forCircuits_keeps (fun t => t.pending) _ (by
      intro d t; split
      · rfl
      · split
        · split <;> dsimp only <;> split <;> simp
        · rfl) s

/-- What the ROOM rule changes (R99). -/
@[simp] theorem State.roomNotices_frame (s : State) :
    (s.roomNotices).services = s.services ∧ (s.roomNotices).reservationTotal = s.reservationTotal
      ∧ (s.roomNotices).cellsHeld = s.cellsHeld ∧ (s.roomNotices).txFree = s.txFree
      ∧ (s.roomNotices).links = s.links ∧ (s.roomNotices).linkNotices = s.linkNotices
      ∧ (s.roomNotices).noticeEnable = s.noticeEnable
      ∧ (s.roomNotices).completionEnable = s.completionEnable ∧ (s.roomNotices).word0 = s.word0
      ∧ (s.roomNotices).args = s.args ∧ (s.roomNotices).data = s.data
      ∧ (s.roomNotices).done = s.done ∧ (s.roomNotices).collide = s.collide
      ∧ (s.roomNotices).command = s.command ∧ (s.roomNotices).settings = s.settings
      ∧ (s.roomNotices).held = s.held ∧ (s.roomNotices).powering = s.powering
      ∧ (s.roomNotices).pending = s.pending ∧ (∀ m, (s.roomNotices).link m = s.link m) := by
  refine ⟨?_, ?_, ?_, ?_, ?_, ?_, ?_, ?_, ?_, ?_, ?_, ?_, ?_, ?_, ?_, ?_, ?_, ?_, ?_⟩
  · exact State.forCircuits_keeps (fun t => t.services) _ (by intro d t; simp) s
  · exact State.forCircuits_keeps (fun t => t.reservationTotal) _ (by intro d t; simp) s
  · exact State.forCircuits_keeps (fun t => t.cellsHeld) _ (by intro d t; simp) s
  · exact State.forCircuits_keeps (fun t => t.txFree) _ (by intro d t; simp) s
  · exact State.forCircuits_keeps (fun t => t.links) _ (by intro d t; simp) s
  · exact State.forCircuits_keeps (fun t => t.linkNotices) _ (by intro d t; simp) s
  · exact State.forCircuits_keeps (fun t => t.noticeEnable) _ (by intro d t; simp) s
  · exact State.forCircuits_keeps (fun t => t.completionEnable) _ (by intro d t; simp) s
  · exact State.forCircuits_keeps (fun t => t.word0) _ (by intro d t; simp) s
  · exact State.forCircuits_keeps (fun t => t.args) _ (by intro d t; simp) s
  · exact State.forCircuits_keeps (fun t => t.data) _ (by intro d t; simp) s
  · exact State.forCircuits_keeps (fun t => t.done) _ (by intro d t; simp) s
  · exact State.forCircuits_keeps (fun t => t.collide) _ (by intro d t; simp) s
  · exact State.forCircuits_keeps (fun t => t.command) _ (by intro d t; simp) s
  · exact State.forCircuits_keeps (fun t => t.settings) _ (by intro d t; simp) s
  · exact State.forCircuits_keeps (fun t => t.held) _ (by intro d t; simp) s
  · exact State.forCircuits_keeps (fun t => t.powering) _ (by intro d t; simp) s
  · exact State.forCircuits_keeps (fun t => t.pending) _ (by intro d t; simp) s
  · intro m; exact State.forCircuits_keeps (fun t => t.link m) _ (by intro d t; simp) s

/-- What the opening of a call changes (R50). -/
@[simp] theorem State.openCall_frame (s : State) (c : CircuitNo) (p : Peer) (w : Word) :
    (s.openCall c p w).reservationTotal = s.reservationTotal
      ∧ (s.openCall c p w).cellsHeld = s.cellsHeld
      ∧ (s.openCall c p w).linkNotices = s.linkNotices
      ∧ (s.openCall c p w).noticeEnable = s.noticeEnable
      ∧ (s.openCall c p w).completionEnable = s.completionEnable
      ∧ (s.openCall c p w).word0 = s.word0 ∧ (s.openCall c p w).args = s.args
      ∧ (s.openCall c p w).data = s.data ∧ (s.openCall c p w).done = s.done
      ∧ (s.openCall c p w).collide = s.collide ∧ (s.openCall c p w).command = s.command
      ∧ (s.openCall c p w).settings = s.settings ∧ (s.openCall c p w).held = s.held
      ∧ (s.openCall c p w).powering = s.powering ∧ (s.openCall c p w).pending = s.pending := by
  unfold State.openCall; split <;> simp

/-- What a link end changes (R127). -/
@[simp] theorem State.endLink_frame (s : State) (l : LinkNo) (d : DownCause) :
    (s.endLink l d).reservationTotal = s.reservationTotal
      ∧ (s.endLink l d).cellsHeld = s.cellsHeld ∧ (s.endLink l d).noticeEnable = s.noticeEnable
      ∧ (s.endLink l d).completionEnable = s.completionEnable ∧ (s.endLink l d).word0 = s.word0
      ∧ (s.endLink l d).args = s.args ∧ (s.endLink l d).data = s.data
      ∧ (s.endLink l d).done = s.done ∧ (s.endLink l d).collide = s.collide
      ∧ (s.endLink l d).command = s.command ∧ (s.endLink l d).settings = s.settings
      ∧ (s.endLink l d).held = s.held ∧ (s.endLink l d).powering = s.powering
      ∧ (s.endLink l d).pending = s.pending := by
  simp [State.endLink]

/-- What the ROOM notices at the end of a claim change (R99). -/
@[simp] theorem State.afterReturns_frame (s b : State) :
    (State.afterReturns b s).services = s.services
      ∧ (State.afterReturns b s).reservationTotal = s.reservationTotal
      ∧ (State.afterReturns b s).cellsHeld = s.cellsHeld
      ∧ (State.afterReturns b s).txFree = s.txFree ∧ (State.afterReturns b s).links = s.links
      ∧ (State.afterReturns b s).linkNotices = s.linkNotices
      ∧ (State.afterReturns b s).noticeEnable = s.noticeEnable
      ∧ (State.afterReturns b s).completionEnable = s.completionEnable
      ∧ (State.afterReturns b s).word0 = s.word0 ∧ (State.afterReturns b s).args = s.args
      ∧ (State.afterReturns b s).data = s.data ∧ (State.afterReturns b s).done = s.done
      ∧ (State.afterReturns b s).collide = s.collide
      ∧ (State.afterReturns b s).command = s.command
      ∧ (State.afterReturns b s).settings = s.settings ∧ (State.afterReturns b s).held = s.held
      ∧ (State.afterReturns b s).powering = s.powering
      ∧ (State.afterReturns b s).pending = s.pending
      ∧ (∀ m, (State.afterReturns b s).link m = s.link m) := by
  unfold State.afterReturns; split <;> simp

/-- What the choice at a frame boundary changes (R102). -/
@[simp] theorem State.choose_frame (s : State) (l : LinkNo) :
    (s.choose l).services = s.services ∧ (s.choose l).reservationTotal = s.reservationTotal
      ∧ (s.choose l).cellsHeld = s.cellsHeld ∧ (s.choose l).txFree = s.txFree
      ∧ (s.choose l).circuitNotices = s.circuitNotices ∧ (s.choose l).linkNotices = s.linkNotices
      ∧ (s.choose l).noticeList = s.noticeList ∧ (s.choose l).noticeEnable = s.noticeEnable
      ∧ (s.choose l).completionEnable = s.completionEnable ∧ (s.choose l).word0 = s.word0
      ∧ (s.choose l).args = s.args ∧ (s.choose l).data = s.data ∧ (s.choose l).done = s.done
      ∧ (s.choose l).collide = s.collide ∧ (s.choose l).command = s.command
      ∧ (s.choose l).settings = s.settings ∧ (s.choose l).held = s.held
      ∧ (s.choose l).powering = s.powering ∧ (s.choose l).pending = s.pending := by
  unfold State.choose; split
  · simp
  · split
    · simp
    · split
      · simp
      · split <;> simp

/-- What a frame boundary changes (R101). -/
@[simp] theorem State.boundary_frame (s : State) (l : LinkNo) :
    (s.boundary l).services = s.services ∧ (s.boundary l).reservationTotal = s.reservationTotal
      ∧ (s.boundary l).cellsHeld = s.cellsHeld ∧ (s.boundary l).txFree = s.txFree
      ∧ (s.boundary l).circuitNotices = s.circuitNotices
      ∧ (s.boundary l).linkNotices = s.linkNotices ∧ (s.boundary l).noticeList = s.noticeList
      ∧ (s.boundary l).noticeEnable = s.noticeEnable
      ∧ (s.boundary l).completionEnable = s.completionEnable ∧ (s.boundary l).word0 = s.word0
      ∧ (s.boundary l).args = s.args ∧ (s.boundary l).data = s.data
      ∧ (s.boundary l).done = s.done ∧ (s.boundary l).collide = s.collide
      ∧ (s.boundary l).command = s.command ∧ (s.boundary l).settings = s.settings
      ∧ (s.boundary l).held = s.held ∧ (s.boundary l).powering = s.powering
      ∧ (s.boundary l).pending = s.pending := by
  unfold State.boundary; split <;> simp

/-- What the frame boundaries of all links change (R101). -/
@[simp] theorem State.boundaries_frame (s : State) :
    (s.boundaries).services = s.services ∧ (s.boundaries).reservationTotal = s.reservationTotal
      ∧ (s.boundaries).cellsHeld = s.cellsHeld ∧ (s.boundaries).txFree = s.txFree
      ∧ (s.boundaries).circuitNotices = s.circuitNotices
      ∧ (s.boundaries).linkNotices = s.linkNotices ∧ (s.boundaries).noticeList = s.noticeList
      ∧ (s.boundaries).noticeEnable = s.noticeEnable
      ∧ (s.boundaries).completionEnable = s.completionEnable ∧ (s.boundaries).word0 = s.word0
      ∧ (s.boundaries).args = s.args ∧ (s.boundaries).data = s.data
      ∧ (s.boundaries).done = s.done ∧ (s.boundaries).collide = s.collide
      ∧ (s.boundaries).command = s.command ∧ (s.boundaries).settings = s.settings
      ∧ (s.boundaries).held = s.held ∧ (s.boundaries).powering = s.powering
      ∧ (s.boundaries).pending = s.pending := by
  simp [State.boundaries, allLinks, List.finRange_succ]

/-- What the end of a claim changes (R99, R101). -/
@[simp] theorem State.finishClaim_frame (s b : State) (l : LinkNo) :
    (State.finishClaim b s l).services = s.services
      ∧ (State.finishClaim b s l).reservationTotal = s.reservationTotal
      ∧ (State.finishClaim b s l).cellsHeld = s.cellsHeld
      ∧ (State.finishClaim b s l).txFree = s.txFree
      ∧ (State.finishClaim b s l).linkNotices = s.linkNotices
      ∧ (State.finishClaim b s l).noticeEnable = s.noticeEnable
      ∧ (State.finishClaim b s l).completionEnable = s.completionEnable
      ∧ (State.finishClaim b s l).word0 = s.word0 ∧ (State.finishClaim b s l).args = s.args
      ∧ (State.finishClaim b s l).data = s.data ∧ (State.finishClaim b s l).done = s.done
      ∧ (State.finishClaim b s l).collide = s.collide
      ∧ (State.finishClaim b s l).command = s.command
      ∧ (State.finishClaim b s l).settings = s.settings ∧ (State.finishClaim b s l).held = s.held
      ∧ (State.finishClaim b s l).powering = s.powering
      ∧ (State.finishClaim b s l).pending = s.pending := by
  simp [State.finishClaim]

end Sys2Proof.Machine
end

