-- ==== Sys2Proof/Laws/Ops.lean ====
section
/-! SUPPORT. What the shared operations do, said once each: the record of every circuit after them, the
generations, the links, the posting rules, and the record-level rules of credit and of owed sets. -/

namespace Sys2Proof.Machine

/-! ### Owed sets -/

@[simp] theorem Owed.has_put_self (o : Owed) (k : ControlKind) (b : Bool) : (o.put k b).has k = b := by
  cases k <;> rfl

theorem Owed.has_put_ne (o : Owed) {k j : ControlKind} (b : Bool) (h : j ≠ k) :
    (o.put k b).has j = o.has j := by
  cases k <;> cases j <;> first | rfl | exact absurd rfl h

@[simp] theorem Owed.isEmpty_put_true (o : Owed) (k : ControlKind) :
    (o.put k true).isEmpty = false := by
  cases k <;> simp [Owed.put, Owed.isEmpty]

/-- A set is empty exactly when no kind is owed. -/
theorem Owed.isEmpty_iff (o : Owed) : o.isEmpty = true ↔ ∀ k, o.has k = false := by
  constructor
  · intro h k; cases k <;> simp_all [Owed.isEmpty, Owed.has]
  · intro h
    have := h .accept; have := h .grant; have := h .ask; have := h .openRequest; have := h .close
    have := h .closed
    simp_all [Owed.isEmpty, Owed.has]

/-- The first owed kind is owed. -/
theorem Owed.has_first {o : Owed} {k : ControlKind} (h : o.first = some k) : o.has k = true := by
  unfold Owed.first at h
  repeat' split at h
  all_goals first | cases h; assumption | cases h

/-- A set has a first owed kind exactly when it is not empty. -/
theorem Owed.first_eq_none_iff (o : Owed) : o.first = none ↔ o.isEmpty = true := by
  unfold Owed.first Owed.isEmpty
  repeat' split
  all_goals simp_all

@[simp] theorem Owed.afterEnd_afterEnd (o : Owed) : o.afterEnd.afterEnd = o.afterEnd := rfl

/-! ### Records after each operation -/

theorem State.record_setRecord (s : State) (c d : CircuitNo) (r : Option Record) :
    (s.setRecord c r).record d = if d = c then r else s.record d := by
  by_cases h : d = c
  · subst h; simp
  · simp [h, State.record_setRecord_ne s r h]

theorem State.record_putLessOwed (s : State) (c d : CircuitNo) (r : Record) :
    (s.putLessOwed c r).record d = if d = c then some r else s.record d := by
  unfold State.putLessOwed
  split <;> simp [State.record_setRecord]

theorem State.record_owe (s : State) (c d : CircuitNo) (k : ControlKind) :
    (s.owe c k).record d =
      if d = c then (s.record c).map fun r => { r with owed := r.owed.put k true }
      else s.record d := by
  unfold State.owe
  split
  · rename_i h; split <;> simp_all
  · split <;> simp_all [State.record_setRecord]

theorem State.record_disown (s : State) (c d : CircuitNo) (k : ControlKind) :
    (s.disown c k).record d =
      if d = c then (s.record c).map fun r => { r with owed := r.owed.put k false }
      else s.record d := by
  unfold State.disown
  split
  · rename_i h; split <;> simp_all
  · simp_all [State.record_putLessOwed]

theorem State.record_endCircuit (s : State) (c d : CircuitNo) (e : EndCause) (x : Option Byte) :
    (s.endCircuit c e x).record d =
      if d = c then (s.record c).map fun r => r.atEnd e x else s.record d := by
  unfold State.endCircuit
  split
  · rename_i h; split <;> simp_all
  · rename_i r h
    rw [h, Option.map_some, ← State.record_putLessOwed s c d (r.atEnd e x)]
    have keeps (t : State) : (t.uncount r).record d = t.record d := by simp
    dsimp only
    rw [keeps]
    rfl

theorem State.record_supersede (s : State) (c d : CircuitNo) :
    (s.supersede c).record d =
      if d = c then
        (s.record c).map fun r =>
          Record.atEnd { r with owed := r.owed.put .close true } .superseded none
      else s.record d := by
  unfold State.supersede
  rw [State.record_endCircuit, State.record_owe, State.record_owe]
  split <;> simp [Function.comp_def]

theorem State.record_beginClosing (s : State) (c d : CircuitNo) :
    (s.beginClosing c).record d =
      if d = c then
        (s.record c).map fun r =>
          { r with phase := .closing .normal, retryCount := 0, owed := r.owed.put .close true }
      else s.record d := by
  unfold State.beginClosing
  split
  · rename_i h; split <;> simp_all
  · simp_all [State.record_owe, State.record_setRecord]

theorem State.record_freeCircuit (s : State) (c d : CircuitNo) :
    (s.freeCircuit c).record d = if d = c then none else s.record d := by
  unfold State.freeCircuit
  split
  · rename_i h; split <;> simp_all
  · rename_i r h
    change (((s.setRecord c none).leaveControl r.link c).dropNotices c).record d = _
    simp [State.record_setRecord]

theorem State.record_refuseOffer (s : State) (c d : CircuitNo) (x : Byte) :
    (s.refuseOffer c x).record d = if d = c then none else s.record d := by
  unfold State.refuseOffer
  split
  · rename_i h; split <;> simp_all
  · simp [State.record_freeCircuit]

theorem State.record_allocate (s : State) (c d : CircuitNo) (a : Allocation) :
    (s.allocate c a).record d = if d = c then some a.record else s.record d := by
  unfold State.allocate
  change (State.setCircuit _ _ _).record d = _
  by_cases h : d = c
  · subst h; simp
  · simp [h, State.record_setCircuit_ne s _ h]

/-! ### Generations -/

/-- Owing a kind leaves the generations (R3). -/
@[simp] theorem State.generation_owe (s : State) (c d : CircuitNo) (k : ControlKind) :
    ((s.owe c k).circuit d).generation = (s.circuit d).generation := by
  unfold State.owe
  split
  · rfl
  · split <;> simp

@[simp] theorem State.generation_putLessOwed (s : State) (c d : CircuitNo) (r : Record) :
    ((s.putLessOwed c r).circuit d).generation = (s.circuit d).generation := by
  unfold State.putLessOwed
  split <;> simp

/-- An ending keeps the generations (R3). -/
@[simp] theorem State.generation_endCircuit (s : State) (c d : CircuitNo) (e : EndCause)
    (x : Option Byte) :
    ((s.endCircuit c e x).circuit d).generation = (s.circuit d).generation := by
  unfold State.endCircuit
  split
  · rfl
  · simp only [State.uncount_frame, State.postCircuit_frame]
    change ((State.putLessOwed _ _ _).circuit d).generation = _
    simp

/-- Going to FREE keeps the generations (R3, R20). -/
@[simp] theorem State.generation_freeCircuit (s : State) (c d : CircuitNo) :
    ((s.freeCircuit c).circuit d).generation = (s.circuit d).generation := by
  unfold State.freeCircuit
  split
  · rfl
  · rename_i r h
    change ((((s.setRecord c none).leaveControl r.link c).dropNotices c).circuit d).generation = _
    simp

/-- Allocation adds 1 to the generation of the record it takes, and to no other (R17). -/
theorem State.generation_allocate (s : State) (c d : CircuitNo) (a : Allocation) :
    ((s.allocate c a).circuit d).generation =
      if d = c then (s.circuit c).generation + 1 else (s.circuit d).generation := by
  unfold State.allocate
  change ((State.setCircuit _ _ _).circuit d).generation = _
  by_cases h : d = c
  · subst h; simp
  · simp [h, State.circuit_setCircuit_ne s _ h]

/-! ### Links -/

theorem State.link_onLink (s : State) (l m : LinkNo) (f : Link → Link) :
    (s.onLink l f).link m = if m = l then f (s.link l) else s.link m := by
  by_cases h : m = l
  · subst h; simp
  · simp [h, State.link_onLink_ne s f h]

/-- The links after a kind is owed: the circuit joins the tail of its link's control list where nothing
was owed and the link is UP (R8, R135). -/
theorem State.link_owe (s : State) (c : CircuitNo) (k : ControlKind) (m : LinkNo) {r : Record}
    (h : s.record c = some r) :
    (s.owe c k).link m =
      if m = r.link ∧ r.owed.isEmpty = true ∧ (s.link r.link).isUp = true then
        { s.link m with controlList := (s.link m).controlList ++ [c] }
      else s.link m := by
  unfold State.owe
  simp only [h]
  split
  · rename_i g
    simp only [Bool.and_eq_true] at g
    by_cases e : m = r.link
    · subst e; simp [State.joinControl, g]
    · simp [State.joinControl, State.link_onLink, e]
  · rename_i g
    simp only [Bool.and_eq_true] at g
    have : ¬ (m = r.link ∧ r.owed.isEmpty = true ∧ (s.link r.link).isUp = true) := fun x => g x.2
    simp [this]

/-- The links after a record is written that owes less or the same: the circuit is off its link's control
list where nothing is owed any more (R135). -/
theorem State.link_putLessOwed (s : State) (c : CircuitNo) (r : Record) (m : LinkNo) :
    (s.putLessOwed c r).link m =
      if m = r.link ∧ r.owed.isEmpty = true then
        { s.link m with controlList := (s.link m).controlList.filter (· != c) }
      else s.link m := by
  unfold State.putLessOwed
  by_cases g : r.owed.isEmpty = true
  · by_cases e : m = r.link
    · subst e; simp [State.leaveControl, g]
    · simp [State.leaveControl, State.link_onLink, e, g]
  · simp [g]

/-- The links after an ending (R14, R135). -/
theorem State.link_endCircuit (s : State) (c : CircuitNo) (e : EndCause) (x : Option Byte)
    (m : LinkNo) {r : Record} (h : s.record c = some r) :
    (s.endCircuit c e x).link m =
      if m = r.link ∧ r.owed.afterEnd.isEmpty = true then
        { s.link m with controlList := (s.link m).controlList.filter (· != c) }
      else s.link m := by
  unfold State.endCircuit
  simp only [h, State.uncount_frame, State.postCircuit_frame]
  change (State.putLessOwed _ _ _).link m = _
  rw [State.link_putLessOwed]
  rfl

/-- An answer item joins the tail of a list with room, and is dropped by a full one (R134). -/
theorem State.link_answer (s : State) (l m : LinkNo) (item : AnswerItem) :
    (s.answer l item).link m =
      if m = l ∧ (s.link l).answerList.length < Config.answerCapacity then
        { s.link m with answerList := (s.link m).answerList ++ [item] }
      else s.link m := by
  unfold State.answer
  rw [State.link_onLink]
  by_cases h : m = l
  · subst h; simp
  · simp [h]

/-! ### The two line machines of a link (R139, R144, R145, R148) -/

@[simp] theorem Link.characterConfig_receiving {x : Link} {cfg : LineConfig}
    (h : x.receiver = .receiving cfg) : x.characterConfig = cfg := by
  simp [Link.characterConfig, h]

/-- A character is judged under the configuration that stands (R139, R144). -/
theorem Link.characterConfig_of_fits {x : Link} (h : x.receiverFits = true) :
    x.characterConfig = x.config := by
  unfold Link.receiverFits at h
  unfold Link.characterConfig
  split <;> simp_all

/-- A receiver that begins to watch an input receives no character (R145). -/
@[simp] theorem receiverOf_not_receiving (level : LineLevel) (cfg : LineConfig) :
    receiverOf level ≠ .receiving cfg := by
  cases level <;> simp [receiverOf]

/-- Nor does one after a reset (R151). -/
@[simp] theorem receiverAt_not_receiving (loopback : Bool) (level : LineLevel) (cfg : LineConfig) :
    receiverAt loopback level ≠ .receiving cfg := by
  cases loopback <;> simp [receiverAt]

/-- Nor does one under a new configuration (R144). -/
@[simp] theorem receiverConfigured_not_receiving (lines : LinesNow) (loopback : Bool)
    (sending : LineTransmitter) (cfg : LineConfig) :
    receiverConfigured lines loopback sending ≠ .receiving cfg := by
  unfold receiverConfigured
  split
  · split <;> simp
  · simp

/-- A link that is not looped has nothing on its internal path (R149). -/
@[simp] theorem pathAt_false (before : Bool) (path : List Byte) (n : Nat) :
    pathAt before false path n = [] := rfl

/-- No more than the cut delimiters not yet begun are left on the internal path (R144). -/
theorem length_pathAt_le (before after : Bool) (path : List Byte) (n : Nat) :
    (pathAt before after path n).length ≤ n := by
  unfold pathAt
  split
  · simp
  · split
    · simp only [List.length_drop]; omega
    · simp

@[simp] theorem length_dataLevels (b : Byte) : (dataLevels b).length = 8 := by
  simp [dataLevels]

@[simp] theorem Parity.length_levels (p : Parity) (b : Byte) : (p.levels b).length = p.bits := by
  cases p <;> rfl

/-- The characters of a wave follow one another (R141). -/
@[simp] theorem LineConfig.wave_append (c : LineConfig) (xs ys : List Byte) :
    c.wave (xs ++ ys) = c.wave xs ++ c.wave ys := by
  simp [LineConfig.wave]

@[simp] theorem Link.configure_same (x : Link) (lines : LinesNow) :
    x.configure x.config lines = x := by
  simp [Link.configure]

/-- LINK-CONFIGURE leaves the configuration that it gives (R143). -/
@[simp] theorem Link.config_configure (x : Link) (cfg : LineConfig) (lines : LinesNow) :
    (x.configure cfg lines).config = cfg := by
  unfold Link.configure
  split <;> simp_all

/-- LINK-CONFIGURE leaves the frame on the line, the cut delimiters and the link state (R143, R144). -/
theorem Link.configure_frame (x : Link) (cfg : LineConfig) (lines : LinesNow) :
    (x.configure cfg lines).onLine = x.onLine
      ∧ (x.configure cfg lines).cutDelimiters = x.cutDelimiters
      ∧ (x.configure cfg lines).state = x.state := by
  unfold Link.configure
  split <;> simp

/-- The end of a cut delimiter leaves the line transmitter with what there is to send (R144, R148). -/
theorem Link.transmitterFits_endDelimiter (x : Link) : x.endDelimiter.transmitterFits = true := by
  unfold Link.endDelimiter Link.transmitterFits
  by_cases h : x.cutDelimiters - 1 = 0
  · cases e : x.onLine <;> simp [h]
  · simp [h]

/-- An emptied line leaves the rest of the links (R109, R111). -/
theorem State.link_clearLine (s : State) (l : LinkNo) :
    (s.clearLine l).link l = { s.link l with onLine := none } := by
  unfold State.clearLine
  split
  · rename_i h; rw [← h]
  · rename_i f h
    have keeps : (s.onLink l fun x => { x with onLine := none }).link l
        = { s.link l with onLine := none } := by simp
    dsimp only
    split
    · exact keeps
    · exact keeps

/-- Of a cut frame at most the one begun character is still to be delivered (R148). -/
theorem Link.begunOnPath_le_one (x : Link) (f : Frame) : x.begunOnPath f ≤ 1 := by
  unfold Link.begunOnPath
  split
  · exact Nat.le_refl 1
  · split <;> omega
  · omega

/-- A cut leaves what was sent before the frame on the internal path, and ends it with the cut delimiter
(R148, R149). -/
theorem Link.cutPath_eq (x : Link) (f : Frame) {before : List Byte}
    (h : x.loopPath = before ++ lineCharacters f) :
    x.cutPath f = before ++ (lineCharacters f).take (x.begunOnPath f) ++ [delimiter] := by
  unfold Link.cutPath
  rw [h, List.length_append, Nat.add_sub_cancel, List.take_length_add_append]

/-- The link after a cut: its line is empty and one more delimiter is to be sent (R111, R148). -/
theorem State.link_cutFrame (s : State) (l : LinkNo) {f : Frame} (h : (s.link l).onLine = some f) :
    (s.cutFrame l).link l =
      { s.link l with
        onLine := none
        transmitter := (s.link l).transmitter.cut
        cutDelimiters := (s.link l).cutDelimiters + 1
        loopPath :=
          if (s.link l).config.loopback then (s.link l).cutPath f
          else (s.link l).loopPath } := by
  unfold State.cutFrame
  simp [h, State.link_clearLine]
  rfl

/-! ### Notices (R153) -/

theorem CircuitPending.isEmpty_add (p : CircuitPending) (k : CircuitNotice) :
    (p.add k).isEmpty = false := by
  cases k <;> simp [CircuitPending.add, CircuitPending.isEmpty]

theorem LinkPending.isEmpty_add (p : LinkPending) (k : LinkNotice) : (p.add k).isEmpty = false := by
  cases k <;> simp [LinkPending.add, LinkPending.isEmpty]

/-- A posting for a circuit keeps the law of the notice list. -/
theorem noticeListLaw_postCircuit {s : State} (h : NoticeListLaw s) (c : CircuitNo)
    (k : CircuitNotice) : NoticeListLaw (s.postCircuit c k) := by
  obtain ⟨hn, hc, hl⟩ := h
  unfold State.postCircuit
  refine ⟨?_, fun d => ?_, fun l => ?_⟩
  · dsimp only
    split
    · rename_i e
      have off : Source.circuit c ∉ s.noticeList := fun m => by
        have := (hc c).1 m
        simp_all
      simp only [List.nodup_append, hn, true_and]
      simp only [List.nodup_cons, List.not_mem_nil, not_false_eq_true, List.nodup_nil, and_self,
        true_and, List.mem_singleton, forall_eq]
      exact fun a m h => off (h ▸ m)
    · exact hn
  · dsimp only
    by_cases e : d = c
    · subst e
      split
      · simp [CircuitPending.isEmpty_add]
      · rename_i g
        simpa [CircuitPending.isEmpty_add] using (hc d).2 (by simpa using g)
    · have e' : c.val ≠ d.val := fun x => e (Fin.ext x.symm)
      split <;> simp [e, e', hc d]
  · dsimp only
    split <;> simp [hl l]

/-- A posting for a link keeps the law of the notice list. -/
theorem noticeListLaw_postLink {s : State} (h : NoticeListLaw s) (l : LinkNo) (k : LinkNotice) :
    NoticeListLaw (s.postLink l k) := by
  obtain ⟨hn, hc, hl⟩ := h
  unfold State.postLink
  refine ⟨?_, fun c => ?_, fun m => ?_⟩
  · dsimp only
    split
    · rename_i e
      have off : Source.link l ∉ s.noticeList := fun m => by
        have := (hl l).1 m
        simp_all
      simp only [List.nodup_append, hn, true_and]
      simp only [List.nodup_cons, List.not_mem_nil, not_false_eq_true, List.nodup_nil, and_self,
        true_and, List.mem_singleton, forall_eq]
      exact fun a m h => off (h ▸ m)
    · exact hn
  · dsimp only
    split <;> simp [hc c]
  · dsimp only
    by_cases e : m = l
    · subst e
      split
      · simp [LinkPending.isEmpty_add]
      · rename_i g
        simpa [LinkPending.isEmpty_add] using (hl m).2 (by simpa using g)
    · have e' : l.val ≠ m.val := fun x => e (Fin.ext x.symm)
      split <;> simp [e, e', hl m]

/-- The removal of a circuit's notices keeps the law of the notice list (R157). -/
theorem noticeListLaw_dropNotices {s : State} (h : NoticeListLaw s) (c : CircuitNo) :
    NoticeListLaw (s.dropNotices c) := by
  obtain ⟨hn, hc, hl⟩ := h
  unfold State.dropNotices
  refine ⟨hn.filter _, fun d => ?_, fun l => ?_⟩
  · dsimp only
    by_cases e : d = c
    · subst e; simp [CircuitPending.isEmpty]
    · have e' : c.val ≠ d.val := fun x => e (Fin.ext x.symm)
      simp [e, e', hc d]
  · simp [hl l]

/-! ### Credit -/

/-- The forward-only rule: a limit that is not 1..32767 ahead is ignored (R78). -/
theorem Record.offerLimit_ignored {k : Nat} {r : Record} {w : Word}
    (h : forward (w - r.creditLimit) = false) : r.offerLimit k w = r := by
  simp [Record.offerLimit, h]

/-- The forward-only rule: a limit that is 1..32767 ahead is taken (R78). -/
theorem Record.offerLimit_taken {k : Nat} {r : Record} {w : Word}
    (h : forward (w - r.creditLimit) = true) : (r.offerLimit k w).creditLimit = w := by
  simp [Record.offerLimit, h, Record.settleAsk]

/-- After a change is settled, the ask timer runs exactly while the record is blocked, if it did before
(R89). -/
theorem Record.settleAsk_askTimer (k : Nat) (before after : Record)
    (h : before.askTimer.isSome = before.blocked) (same : after.askTimer = before.askTimer) :
    (Record.settleAsk k before after).askTimer.isSome = after.blocked := by
  unfold Record.settleAsk
  dsimp only
  split
  · rename_i a
    split
    · rename_i b; simp [same, h, a, b]
    · simp [a]
  · rename_i a; simpa using a

/-! ### Completion -/

/-- A reply writes no word that it does not name (R167). -/
theorem writeWords_other {n : Nat} (ws : List (Fin n × Word)) (v : Vector Word n) (k : Fin n)
    (h : k ∉ ws.map Prod.fst) : (writeWords v ws)[k] = v[k] := by
  unfold writeWords
  induction ws generalizing v with
  | nil => rfl
  | cons p ws ih =>
    simp only [List.map_cons, List.mem_cons, not_or] at h
    have e : p.1.val ≠ k.val := fun x => h.1 (Fin.ext x.symm)
    rw [List.foldl_cons, ih _ h.2]
    simp [e]

/-- A reply writes each word that it names once with the value it gives (R167). -/
theorem writeWords_named {n : Nat} (ws : List (Fin n × Word)) (v : Vector Word n) (k : Fin n)
    (w : Word) (hw : (k, w) ∈ ws) (h : (ws.map Prod.fst).Nodup) : (writeWords v ws)[k] = w := by
  unfold writeWords
  induction ws generalizing v with
  | nil => cases hw
  | cons p ws ih =>
    simp only [List.map_cons, List.nodup_cons] at h
    rw [List.foldl_cons]
    rcases List.mem_cons.1 hw with e | m
    · subst e
      have := writeWords_other ws (v.set k w) k h.1
      unfold writeWords at this
      rw [this]; simp
    · exact ih _ m h.2

end Sys2Proof.Machine
end

