-- ==== Sys2Proof/WellFormed.lean ====
section
/-! DEFINITION. Which events the table's rows can carry. The meanings are total; what they do outside
these checks is in log entries 17 and 18. -/

namespace Sys2Proof

/-- A DATA frame carries 1..32 bytes of payload (R114, R115). -/
def payloadOk (payload : List Byte) : Bool :=
  1 ≤ payload.length && payload.length ≤ 32

/-- STATUS and CONTROL are written by rows of their own (R164, R158). -/
def mailboxWordOk (word : BitVec 5) : Bool :=
  word != 1 && word != 2

/-- An event that the table's row for it describes. -/
def Instr.wellFormed : Instr → Bool
  | .partConfigure => true
  | .partQuery => true
  | .clear => true
  | .linkConfigure _ => true
  | .linkStart => true
  | .linkStop => true
  | .linkQuery => true
  | .serviceRegister => true
  | .serviceAmend => true
  | .serviceWithdraw => true
  | .serviceQuery => true
  | .circuitCall => true
  | .circuitAnswer => true
  | .circuitRefuse => true
  | .circuitClose => true
  | .circuitAbort => true
  | .circuitRelease => true
  | .circuitQuery => true
  | .circuitAmend => true
  | .circuitFind => true
  | .send => true
  | .receive => true
  | .nextNotice => true
  | .poolQuery => true
  | .badCommand => true
  | .mailboxWrite word _ => mailboxWordOk word
  | .statusWrite _ => true
  | .controlWrite _ => true
  | .resetnPulse lowNs _ => 500 ≤ lowNs
  | .resetnRelease => true
  | .powerOn _ _ => true
  | .helloFrame _ _ _ => true
  | .openFrame _ _ _ _ => true
  | .acceptFrame _ _ _ => true
  | .refuseFrame _ _ _ => true
  | .closeFrame _ _ _ => true
  | .closedFrame _ _ => true
  | .dataFrame _ _ _ payload => payloadOk payload
  | .grantFrame _ _ _ => true
  | .askFrame _ _ => true
  | .frameDiscard _ _ => true
  | .lineFault _ _ => true
  | .retryTimerExpiry _ => true
  | .holdTimerExpiry _ => true
  | .askTimerExpiry _ => true
  | .helloTimerExpiry _ => true
  | .deadTimerExpiry _ => true
  | .transmissionCompletion _ => true
  | .commandStart _ => true
  | .receivedCharacter _ _ => true
  | .returnToMark _ => true
  | .cutDelimiterCompletion _ => true

end Sys2Proof
end

