-- ==== Sys2Proof/Tests/Slice0.lean ====
section
/-! SUPPORT. Small one-step tests with results read from the spec, the smoke tests of `WellFormed`, and for
each statement with hypotheses a concrete state that meets them (the theorems named `witness_`). -/

namespace Sys2Proof.Tests

open Sys2Proof.Machine

set_option Elab.async false

/-! ### Helpers -/

/-- The state after an event. -/
def after (i : Instr) (s : State) : State :=
  match exec i s with
  | .next t => t
  | .fault _ => s
  | .refused _ => s

/-- Whether an event has a next state with a property. -/
def leads (i : Instr) (s : State) (p : State → Bool) : Bool :=
  match exec i s with
  | .next t => p t
  | .fault _ => false
  | .refused _ => false

theorem next_of_leads {i : Instr} {s : State} {p : State → Bool} (h : leads i s p = true) :
    ∃ t, exec i s = .next t ∧ p t = true := by
  unfold leads at h
  split at h
  · exact ⟨_, ‹_›, h⟩
  · cases h
  · cases h

/-- Eight argument words, 0 where none is given. -/
def words (ws : List Word) : Vector Word 8 := Vector.ofFn fun k => ws.getD k.val 0

/-- A command with its captured words. -/
def command (name : CommandName) (ws : List Word) : Command :=
  { name := name, code := 0x55, args := words ws, data := Vector.replicate 16 0x2211 }

/-- A part in which a command is in progress. -/
def asking (s : State) (name : CommandName) (ws : List Word) : State :=
  { s with command := some (command name ws) }

/-- An UP link, own epoch 1 and peer epoch 9, with an IDLE transmitter. -/
def upLink : Link :=
  { Link.reset with
    state := .up, ownEpoch := 1, peerEpoch := 9, helloTimer := some 100, deadTimer := some 400 }

/-- An UP link with a HELLO on its line. -/
def busyLink : Link :=
  { upLink with
    onLine := some (.hello 1 9), helloTimer := none, transmitter := .sendingFrame LineConfig.reset }

/-- A STOPPED link that finishes the begun character of a cut frame. -/
def cutLink : Link :=
  { Link.reset with cutDelimiters := 1, transmitter := .finishing LineConfig.reset }

/-- An OPEN outgoing circuit with peer 5/1, quota 4, threshold 2 and credit 2. -/
def openRecord : Record :=
  { phase := .opened, direction := .outgoing, link := 0, service := 1, peer := some ⟨5, 1⟩
    tag := 7, priority := 1, quota := 4, threshold := 2, rxQueue := [], expected := 0, received := 0
    advertised := 4, depth := 4, txQueue := [], nextSeq := 0, sent := 0, creditLimit := 2
    roomWanted := false, owed := { }, retryCount := 0, retryTimer := none, holdTimer := none
    askTimer := none }

/-- A CALLING circuit. -/
def callingRecord : Record :=
  { openRecord with phase := .calling, peer := none, creditLimit := 0, retryTimer := some 200 }

/-- An OFFERED circuit of service 1. -/
def offeredRecord : Record :=
  { openRecord with phase := .offered, direction := .incoming, holdTimer := some 2000 }

/-- A CLOSING circuit. -/
def closingRecord : Record := { openRecord with phase := .closing .normal, retryTimer := some 200 }

/-- An ENDED circuit. -/
def endedRecord : Record := { openRecord with phase := .ended .peerClose (some 1) 0 }

/-- Service 1: AUTO, LISTENING, link 0 alone, circuit limit 2, quota 4. -/
def service1 : Service :=
  { number := 1, linkMask := 1, mode := .auto, listening := true, limit := 2, active := 0, quota := 4
    threshold := 2, priority := 1, depth := 4, tag := 7 }

/-- A part with link 0 as given and nothing else. -/
def withLink (x : Link) : State := { State.reset with links := State.reset.links.set 0 x }

/-- A part with one circuit, number 0 of generation 1, on link 0 as given. -/
def withRecord (x : Link) (r : Record) : State :=
  { withLink x with
    circuits := State.reset.circuits.set 0 { generation := 1, record := some r }
    reservationTotal := r.quota
    cellsHeld := r.rxQueue.length
    txFree := 256 - r.txQueue.length }

/-- The same part with service 1. -/
def withService (s : State) (e : Service) : State := { s with services := [e] }

/-- Every record of the table in use. -/
def fullTable (s : State) : State :=
  { s with circuits := Vector.replicate 64 { generation := 1, record := some endedRecord } }

/-- A looped STOPPED link. -/
def loopedLink : Link := { Link.reset with config := { LineConfig.reset with loopback := true } }

/-- The address of a frame from peer 5/1 to circuit 0 of generation 1. -/
def toZero : Header := ⟨0, 1, 5, 1⟩

/-- Three equal samples. -/
def steady (x : LineLevel) : BitSamples := ⟨x, x, x⟩

/-- The samples of a character with no parity and one stop bit. -/
def samplesOf (b : Byte) : CharacterSamples :=
  { start := steady .space
    data := Vector.ofFn fun k => steady (if b.getLsbD k.val then .mark else .space)
    parity := steady .mark, stop := steady .mark, heldAtSpace := false }

/-! ### Well-formed events -/

theorem test_wellFormed_statusWord : (Instr.mailboxWrite 1 0).wellFormed = false := by decide
theorem test_wellFormed_controlWord : (Instr.mailboxWrite 2 0).wellFormed = false := by decide
theorem test_wellFormed_argWord : (Instr.mailboxWrite 4 0).wellFormed = true := by decide
theorem test_wellFormed_noPayload : (Instr.dataFrame 0 toZero 0 []).wellFormed = false := by decide
theorem test_wellFormed_longPayload :
    (Instr.dataFrame 0 toZero 0 (List.replicate 33 0)).wellFormed = false := by decide
theorem test_wellFormed_payload :
    (Instr.dataFrame 0 toZero 0 (List.replicate 32 0)).wellFormed = true := by decide
theorem test_wellFormed_shortPulse :
    (Instr.resetnPulse 499 (Vector.replicate 4 .mark)).wellFormed = false := by decide

/-! ### Operations with values in the spec -/

/-- R117: over the nine ASCII bytes "123456789" the CRC gives 29B1h. -/
theorem test_crc_check_value :
    crc16 [0x31, 0x32, 0x33, 0x34, 0x35, 0x36, 0x37, 0x38, 0x39] = 0x29B1 := by decide +kernel

/-- 06, section 6.2.1: the first eleven characters of the GRANT. -/
theorem test_stuffing_example :
    (lineCharacters (.grant ⟨5, 2, 12, 0xF8⟩ 0x00F9)).take 10
      = [0xF8, 0x08, 0x05, 0x02, 0x0C, 0xF9, 0x08, 0x00, 0xF9, 0x09] := by decide +kernel

/-- R140: the power-on divisor gives 115 200 baud, and I = 1 gives 1 152 000. -/
theorem test_baud :
    LineConfig.baud LineConfig.reset = 115200
      ∧ LineConfig.baud { LineConfig.reset with divisor := 1 } = 1152000 := by decide +kernel

/-- R118, R141, R124: the characters of a HELLO with the own epoch bring a SEEKING link UP. -/
theorem test_characters_make_a_frame :
    (((lineCharacters (.hello 9 1)).foldl (fun s b => s.deliver 0 b)
      (withLink { upLink with state := .seeking, deadTimer := none })).link 0).state = .up := by
  decide +kernel

/-! ### One step of each row -/

/-- R171: values outside the range of ARG1 (1) change nothing. -/
theorem test_partConfigure :
    (after .partConfigure (asking .reset .partConfigure [1, 2, 1, 1, 1, 255])).settings
      = { hello := 1, deadCount := 2, retry := 1, retryLimit := 1, answerHold := 1, ask := 255 }
    ∧ (after .partConfigure (asking .reset .partConfigure [1, 1, 1, 1, 1, 1])).word0 = 0x5502 := by
  decide +kernel

/-- R173: after power-on PART-QUERY returns 10, 4, 20, 5, 20 and 25. -/
theorem test_partQuery :
    (after .partQuery (asking .reset .partQuery [])).args
      = #v[10, 4, 20, 5, 20, 25, 0x6401, 0] := by decide +kernel

/-- R138, R174: an UP link seeks with the next epoch and its HELLO starts. -/
theorem test_clear :
    let t := after .clear (asking (withRecord upLink openRecord) .clear [])
    t.record 0 = none ∧ (t.link 0).state = .seeking ∧ (t.link 0).onLine = some (.hello 2 0)
      ∧ t.args[0] = 1 ∧ t.args[2] = 1 := by decide +kernel

/-- R142, R143: divisor 1 + 16/32, EVEN, two stop bits, loopback; 768 000 baud is 000B B800h. -/
theorem test_linkConfigure :
    let t := after (.linkConfigure ⟨.space, .mark, false⟩) (asking .reset .linkConfigure [3, 1, 0x100D])
    (t.link 3).config
        = { divisor := 1, fraction := 16, parity := .even, stopBits := .two, loopback := true }
      ∧ t.args[3] = 0x000B ∧ t.args[4] = 0xB800 := by decide +kernel

/-- R144: loopback is set while a cut frame's begun character is sent: the character finishes on the output
line, and the delimiter, not yet begun, goes to the internal path. Where loopback stays on while the
delimiter is sent inside, with the path at space, the receiver abandons it and waits for mark. -/
theorem test_linkConfigure_cut :
    let t := after (.linkConfigure ⟨.space, .mark, false⟩)
      (asking (withLink cutLink) .linkConfigure [0, 10, 8])
    let cfg := { LineConfig.reset with loopback := true }
    let u := after (.linkConfigure ⟨.mark, .space, true⟩)
      (asking (withLink { cutLink with config := cfg, transmitter := .finishing cfg, loopPath := [0xF8] })
        .linkConfigure [0, 10, 9])
    (t.link 0).transmitter = .finishing LineConfig.reset ∧ (t.link 0).loopPath = [0xF8]
      ∧ t.outputAtMark 0 = false ∧ (t.link 0).receiver = .ready
      ∧ (u.link 0).transmitter = .sendingDelimiter cfg ∧ (u.link 0).loopPath = []
      ∧ (u.link 0).receiver = .waiting := by decide +kernel

/-- 10, section 10.2: LINK-START gives SEEKING, 1, 0 and sends HELLO 1/0. -/
theorem test_linkStart :
    let t := after .linkStart (asking .reset .linkStart [0])
    (t.link 0).state = .seeking ∧ (t.link 0).onLine = some (.hello 1 0) ∧ t.args[1] = 1 := by
  decide +kernel

/-- R130, R111: the DATA frame on the line is cut, its cell returns, and the circuit ends. -/
theorem test_linkStop :
    let t := after .linkStop
      (asking { withRecord { upLink with onLine := some (.data toZero 0 [1]) } openRecord with
        txFree := 255 } .linkStop [0])
    (t.link 0).state = .stopped ∧ (t.link 0).cutDelimiters = 1 ∧ t.txFree = 256
      ∧ (t.record 0).map Record.phase = some (.ended .linkStopped none 0)
      ∧ t.noticeList = [.circuit 0, .link 0] ∧ t.args[1] = 1 := by decide +kernel

/-- R148, R149: a looped HELLO 1/9, F8 01 00 01 00 09 and on, is cut in its second character: that character
and the cut delimiter stay on the path, and the first of a frame of which none is delivered. -/
theorem test_linkStop_looped :
    let cfg := { LineConfig.reset with loopback := true }
    let cut := fun (receiver : ReceiverState) (path : List Byte) =>
      ((after .linkStop
        (asking (withLink { upLink with
          onLine := some (.hello 1 9), config := cfg, transmitter := .sendingFrame cfg
          receiver := receiver, loopPath := path }) .linkStop [0])).link 0).loopPath
    let sent := lineCharacters (.hello 1 9)
    sent.take 2 = [0xF8, 0x01] ∧ cut (.receiving cfg) (sent.drop 1) = [0x01, 0xF8]
      ∧ cut .ready (sent.drop 1) = [0xF8] ∧ cut .ready ([0xF8] ++ sent) = [0xF8, 0xF8, 0xF8] := by
  decide +kernel

/-- R136. -/
theorem test_linkQuery :
    (after .linkQuery (asking (withLink busyLink) .linkQuery [0])).args
      = #v[0, 0x0201, 1, 9, 0, 0, 10, 0] := by decide +kernel

/-- R27, R28. -/
theorem test_serviceRegister :
    (after .serviceRegister
      (asking .reset .serviceRegister [1, 0x0001, 2, 4, 2, 1, 4, 7])).services = [service1] := by
  decide +kernel

/-- R29: the active count stays. -/
theorem test_serviceAmend :
    (after .serviceAmend
      (asking (withService .reset { service1 with active := 2 }) .serviceAmend
        [1, 0x0303, 1, 64, 1, 0, 32, 9])).services
      = [{ number := 1, linkMask := 3, mode := .hold, listening := false, limit := 1, active := 2
           quota := 64, threshold := 1, priority := 0, depth := 32, tag := 9 }] := by decide +kernel

/-- R31, R32: a GENTLE withdrawal with circuits is IN-USE; a FORCE refuses an offer with DECLINED (6). -/
theorem test_serviceWithdraw :
    let s := withService (withRecord busyLink offeredRecord) { service1 with active := 1 }
    (after .serviceWithdraw (asking s .serviceWithdraw [1, 0])).word0 = 0x550D
      ∧ (let t := after .serviceWithdraw (asking s .serviceWithdraw [1, 1])
        t.services = [] ∧ (t.link 0).answerList = [.refuse ⟨5, 1, 255, 0⟩ 6]
          ∧ (t.record 0).map Record.phase = some (.ended .withdrawn none 0)
          ∧ t.args[1] = 1) := by decide +kernel

/-- R27, R30. -/
theorem test_serviceQuery :
    (after .serviceQuery
      (asking (withService .reset { service1 with active := 2 }) .serviceQuery [1])).args
      = #v[1, 0x0001, 0x0202, 4, 2, 1, 4, 7] := by decide +kernel

/-- 10, section 10.3.1: the call of circuit 0, and the OPEN on the line. -/
theorem test_circuitCall :
    let t := after .circuitCall
      (asking (withLink upLink) .circuitCall [0, 7, 4, 2, 1, 8, 0x0100])
    t.args[0] = 0 ∧ t.args[1] = 1 ∧ t.reservationTotal = 4
      ∧ (t.link 0).onLine = some (.openRequest ⟨255, 0, 0, 1⟩ 7 4)
      ∧ (t.record 0).bind Record.retryTimer = some 200 := by decide +kernel

/-- R43: the ACCEPT starts on the IDLE transmitter. -/
theorem test_circuitAnswer :
    let t := after .circuitAnswer (asking (withRecord upLink offeredRecord) .circuitAnswer [0, 1, 8])
    (t.link 0).onLine = some (.accept ⟨5, 1, 0, 1⟩ 4) ∧ t.args[1] = 1 ∧ t.args[2] = 8
      ∧ (t.record 0).bind Record.holdTimer = none := by decide +kernel

/-- R44: reason DECLINED (6), the record FREE with its generation. -/
theorem test_circuitRefuse :
    let t := after .circuitRefuse (asking (withRecord upLink offeredRecord) .circuitRefuse [0])
    (t.link 0).onLine = some (.refuse ⟨5, 1, 255, 0⟩ 6)
      ∧ t.circuit 0 = { generation := 1, record := none } ∧ t.reservationTotal = 0 := by
  decide +kernel

/-- R56, 10, section 10.4: CLOSING with CLOSE of reason 1 on the line. -/
theorem test_circuitClose :
    let t := after .circuitClose (asking (withRecord upLink openRecord) .circuitClose [0])
    t.args[1] = 5 ∧ (t.link 0).onLine = some (.close ⟨5, 1, 0, 1⟩ 1)
      ∧ (t.record 0).map Record.phase = some (.closing .normal) := by decide +kernel

/-- R64, R61: ENDED LOCAL-ABORT with CLOSE of reason ABORT (2) on the line. -/
theorem test_circuitAbort :
    let t := after .circuitAbort (asking (withRecord upLink openRecord) .circuitAbort [0])
    (t.link 0).onLine = some (.close ⟨5, 1, 0, 1⟩ 2)
      ∧ (t.record 0).map Record.phase = some (.ended .localAbort none 0)
      ∧ t.noticeList = [.circuit 0] := by decide +kernel

/-- R20: the unread payload is counted and the generation kept. -/
theorem test_circuitRelease :
    let t := after .circuitRelease
      (asking (withRecord upLink { endedRecord with rxQueue := [⟨0, [1]⟩] }) .circuitRelease [0])
    t.args[1] = 1 ∧ t.args[2] = 1 ∧ t.cellsHeld = 0
      ∧ t.circuit 0 = { generation := 1, record := none } := by decide +kernel

/-- R19. -/
theorem test_circuitQuery :
    let t := after .circuitQuery (asking (withRecord upLink endedRecord) .circuitQuery [0])
    t.args = #v[0, 0x0601, 0x0000, 0x0101, 0x0501, 7, 0x0402, 0x0400] ∧ t.data[8] = 0x0301 := by
  decide +kernel

/-- R23, R85: a new threshold at the lead owes a GRANT at once. -/
theorem test_circuitAmend :
    let r := { openRecord with advertised := 3, received := 0, quota := 4, threshold := 3 }
    (after .circuitAmend (asking (withRecord upLink r) .circuitAmend [0, 2, 0, 1])).link 0
      |>.onLine = some (.grant ⟨5, 1, 0, 1⟩ 4) := by decide +kernel

/-- R22: mode 3 finds a FREE record. -/
theorem test_circuitFind :
    let t := after .circuitFind (asking (withRecord upLink openRecord) .circuitFind [0, 3, 0])
    t.args[0] = 1 ∧ t.args[1] = 0 ∧ t.args[2] = 0 := by decide +kernel

/-- R97: the DATA frame starts on the IDLE transmitter; byte 0 is the low half of DATA0. -/
theorem test_send :
    let t := after .send (asking (withRecord upLink openRecord) .send [0, 3])
    (t.link 0).onLine = some (.data ⟨5, 1, 0, 1⟩ 0 [0x11, 0x22, 0x11]) ∧ t.args[1] = 1
      ∧ t.args[2] = 255 ∧ t.args[3] = 0 := by decide +kernel

/-- R97, check 4. -/
theorem test_send_full :
    let t := after .send
      (asking (withRecord busyLink { openRecord with depth := 1, txQueue := [[1]] }) .send [0, 32])
    t.word0 = 0x5508 ∧ (t.record 0).map Record.roomWanted = some true ∧ t.args[2] = 255 := by
  decide +kernel

/-- R91, and 04, section 4.8: the third RECEIVE of a quota of 8 with threshold 3 starts GRANT 11. -/
theorem test_receive :
    let r := { openRecord with
      quota := 8, threshold := 3, advertised := 8, received := 5, expected := 5
      rxQueue := [⟨2, [7]⟩, ⟨3, [8]⟩, ⟨4, [9]⟩] }
    let t := after .receive (asking (withRecord upLink r) .receive [0])
    t.args[1] = 1 ∧ t.args[2] = 2 ∧ t.args[3] = 2 ∧ t.data[0] = 7
      ∧ (t.link 0).onLine = some (.grant ⟨5, 1, 0, 1⟩ 11) := by decide +kernel

/-- R155, and 08, section 8.3: source 2 with DATA and ENDED has flags 14h. -/
theorem test_nextNotice :
    let s := { withRecord upLink { endedRecord with phase := .ended .linkLost none 0 } with
      noticeList := [.circuit 0], circuitNotices := State.reset.circuitNotices.set 0
        { data := true, ended := true } }
    (after .nextNotice (asking s .nextNotice [])).args
      = #v[0, 0x14, 0x0601, 7, 0x0D00, 0, 0, 0] := by decide +kernel

/-- R93. -/
theorem test_poolQuery :
    let t := after .poolQuery
      (asking (withRecord upLink { openRecord with txQueue := [[1]] }) .poolQuery [])
    t.args[0] = 4 ∧ t.args[1] = 0 ∧ t.args[2] = 1 ∧ t.args[3] = 508 := by decide +kernel

/-- R168. -/
theorem test_badCommand :
    (after .badCommand (asking .reset .bad [])).word0 = 0x5501 := by decide +kernel

/-- R163, R166. -/
theorem test_mailboxWrite :
    (after (.mailboxWrite 11 5) .reset).args[7] = 5
      ∧ (after (.mailboxWrite 27 5) .reset).data[15] = 5
      ∧ (let t := after (.mailboxWrite 4 5) (asking .reset .partQuery [])
        t.args[0] = 0 ∧ t.collide = true) := by decide +kernel

/-- R164: a 1 clears. -/
theorem test_statusWrite :
    let t := after (.statusWrite 0x2) { State.reset with done := true, collide := true }
    t.done = false ∧ t.collide = true := by decide +kernel

/-- R158. -/
theorem test_controlWrite :
    let t := after (.controlWrite 0x2) .reset
    t.noticeEnable = false ∧ t.completionEnable = true := by decide +kernel

/-- R165: the code with FFh while BUSY. -/
theorem test_commandStart :
    let t := after (.commandStart 0x28) { State.reset with done := true }
    t.word0 = 0x28FF ∧ t.done = false ∧ t.command.map Command.name = some .send := by decide +kernel

/-- R176, R24: the generation is kept. -/
theorem test_resetnPulse :
    let t := after (.resetnPulse 500 (Vector.replicate 4 .space)) (withRecord upLink openRecord)
    t.circuit 0 = { generation := 1, record := none } ∧ t.held = true ∧ (t.link 0).ownEpoch = 1
      ∧ (t.link 0).state = .stopped ∧ (t.link 0).receiver = .waiting := by decide +kernel

/-- R177. -/
theorem test_resetnRelease :
    (after .resetnRelease { State.reset with held := true }).held = false := by decide +kernel

/-- R178, R24: the generation is 0. -/
theorem test_powerOn :
    after (.powerOn (.holdEnds false) (Vector.replicate 4 .mark)) (withRecord upLink openRecord)
      = .reset := by decide +kernel

/-- R178: RESETN returning high does not end the power-on hold. -/
theorem test_powerOn_hold :
    let t := after (.powerOn .supplyRises (Vector.replicate 4 .mark)) (withRecord upLink openRecord)
    t.held = true ∧ t.record 0 = none ∧ (after .resetnRelease t).held = true := by decide +kernel

/-- R139: 41h with EVEN parity and two stop bits; its two mark bits leave the parity bit at space. -/
theorem test_characterLevels :
    LineConfig.characterLevels { LineConfig.reset with parity := .even, stopBits := .two } 0x41
      = [.space, .mark, .space, .space, .space, .space, .space, .mark, .space, .space, .mark, .mark] := by
  decide

/-- R149: a character sent is received as itself. -/
theorem test_characterSent :
    let cfg := { LineConfig.reset with parity := .odd, stopBits := .two }
    judge .odd (cfg.samplesSeen (cfg.wave [0xF8])) = .character 0xF8 := by decide +kernel

/-- R126: a HELLO with another epoch on an UP link is a peer restart. -/
theorem test_helloFrame :
    let t := after (.helloFrame 0 42 0) (withRecord upLink openRecord)
    (t.link 0).state = .seeking ∧ (t.link 0).onLine = some (.hello 2 42)
      ∧ (t.record 0).map Record.phase = some (.ended .peerRestart none 0)
      ∧ t.noticeList = [.circuit 0, .link 0] := by decide +kernel

/-- R39, R17: admitted into the lowest FREE record with the generation advanced. -/
theorem test_openFrame :
    let t := after (.openFrame 0 ⟨255, 0, 8, 3⟩ 1 6) (withService (withLink upLink) service1)
    (t.link 0).onLine = some (.accept ⟨8, 3, 0, 1⟩ 4)
      ∧ (t.record 0).map Record.creditLimit = some 6 ∧ t.noticeList = [.circuit 0] := by
  decide +kernel

/-- R37: no such service is reason 1. -/
theorem test_openFrame_refused :
    ((after (.openFrame 0 ⟨255, 0, 8, 3⟩ 2 6) (withLink upLink)).link 0).onLine
      = some (.refuse ⟨8, 3, 255, 0⟩ 1) := by decide +kernel

/-- R50. -/
theorem test_acceptFrame :
    let t := after (.acceptFrame 0 toZero 4) (withRecord upLink callingRecord)
    (t.record 0).map Record.phase = some .opened
      ∧ (t.record 0).map Record.creditLimit = some 4
      ∧ (t.record 0).bind Record.peer = some ⟨5, 1⟩ ∧ t.noticeList = [.circuit 0] := by
  decide +kernel

/-- R53: the reason is the end detail. -/
theorem test_refuseFrame :
    ((after (.refuseFrame 0 ⟨0, 1, 255, 0⟩ 5) (withRecord upLink callingRecord)).record 0).map
      Record.phase = some (.ended .refused (some 5) 0) := by decide +kernel

/-- R60: PEER-CLOSE with CLOSED on the line. -/
theorem test_closeFrame :
    let t := after (.closeFrame 0 toZero 1) (withRecord upLink openRecord)
    (t.record 0).map Record.phase = some (.ended .peerClose (some 1) 0)
      ∧ (t.link 0).onLine = some (.closed ⟨5, 1, 0, 1⟩) := by decide +kernel

/-- R59. -/
theorem test_closedFrame :
    ((after (.closedFrame 0 toZero) (withRecord upLink closingRecord)).record 0).map Record.phase
      = some (.ended .localClose none 0) := by decide +kernel

/-- R83: the first payload posts DATA. -/
theorem test_dataFrame :
    let t := after (.dataFrame 0 toZero 0 [1, 2]) (withRecord upLink openRecord)
    (t.record 0).map Record.rxQueue = some [⟨0, [1, 2]⟩] ∧ t.cellsHeld = 1
      ∧ t.noticeList = [.circuit 0] := by decide +kernel

/-- R82, R66: a gap closes the circuit with reason LOSS (3). -/
theorem test_dataFrame_gap :
    ((after (.dataFrame 0 toZero 1 [1]) (withRecord upLink openRecord)).link 0).onLine
      = some (.close ⟨5, 1, 0, 1⟩ 3) := by decide +kernel

/-- R88. -/
theorem test_grantFrame :
    ((after (.grantFrame 0 toZero 6) (withRecord upLink openRecord)).record 0).map
      Record.creditLimit = some 6 := by decide +kernel

/-- R87: the answer is a GRANT of the candidate limit. -/
theorem test_askFrame :
    ((after (.askFrame 0 toZero) (withRecord upLink openRecord)).link 0).onLine
      = some (.grant ⟨5, 1, 0, 1⟩ 4) := by decide +kernel

/-- R119, R120. -/
theorem test_frameDiscard :
    let t := after (.frameDiscard 0 .crc) (withLink upLink)
    (t.link 0).lastFault = .crc ∧ (t.link 0).assembly = .gather ∧ t.noticeList = [.link 0] := by
  decide +kernel

/-- R146, case 3: a character without a parity bit has no PARITY fault. -/
theorem test_lineFault_parity :
    (after (.lineFault 0 .parity) (withLink upLink)).noticeList = [] := by decide +kernel

/-- R146, R147. -/
theorem test_lineFault :
    let t := after (.lineFault 0 .breakCondition) (withLink upLink)
    (t.link 0).lastFault = .breakCondition ∧ (t.link 0).receiver = .waiting := by decide +kernel

/-- R49: the limit of 5 retries ends the call NO-ANSWER. -/
theorem test_retryTimerExpiry :
    ((after (.retryTimerExpiry 0)
      (withRecord upLink { callingRecord with retryCount := 5 })).record 0).map Record.phase
      = some (.ended .noAnswer none 0) := by decide +kernel

/-- R45: reason TIMEOUT (7). -/
theorem test_holdTimerExpiry :
    ((after (.holdTimerExpiry 0) (withRecord upLink offeredRecord)).link 0).onLine
      = some (.refuse ⟨5, 1, 255, 0⟩ 7) := by decide +kernel

/-- R90. -/
theorem test_askTimerExpiry :
    let r := { openRecord with txQueue := [[1]], creditLimit := 0, askTimer := some 250 }
    ((after (.askTimerExpiry 0) (withRecord upLink r)).link 0).onLine
      = some (.ask ⟨5, 1, 0, 1⟩) := by decide +kernel

/-- R123. -/
theorem test_helloTimerExpiry :
    let t := after (.helloTimerExpiry 0) (withLink upLink)
    (t.link 0).onLine = some (.hello 1 9) ∧ (t.link 0).helloTimer = none := by decide +kernel

/-- R128. -/
theorem test_deadTimerExpiry :
    let t := after (.deadTimerExpiry 0) (withRecord upLink openRecord)
    (t.link 0).onLine = some (.hello 2 0)
      ∧ (t.record 0).map Record.phase = some (.ended .linkLost none 0) := by decide +kernel

/-- R109, R123: the cell returns and the HELLO timer starts. -/
theorem test_transmissionCompletion :
    let s := { withRecord { busyLink with onLine := some (.data toZero 0 [1]) } openRecord with
      txFree := 255 }
    let t := after (.transmissionCompletion 0) s
    t.txFree = 256 ∧ (t.link 0).onLine = none ∧ (t.link 0).helloTimer = some 100 := by
  decide +kernel

/-- R118, R145: the opening delimiter, from its start edge. -/
theorem test_receivedCharacter :
    let t := after (.receivedCharacter 0 .startEdge) (withLink upLink)
    let u := after (.receivedCharacter 0 (.character (samplesOf 0xF8))) t
    (t.link 0).receiver = .receiving LineConfig.reset
      ∧ (u.link 0).receiver = .ready ∧ (u.link 0).assembly = .gather := by decide +kernel

/-- R145: a line that fell to space in the hold. -/
theorem test_receivedCharacter_space :
    let t := after (.receivedCharacter 0 .spaceWithoutEdge) (withLink upLink)
    (t.link 0).receiver = .waiting ∧ t.noticeList = [] := by decide +kernel

/-- R145. -/
theorem test_returnToMark :
    ((after (.returnToMark 0) (withLink { upLink with receiver := .waiting })).link 0).receiver
      = .ready := by decide +kernel

/-- R144, R148: the HELLO that waits behind the delimiter is then sent. -/
theorem test_cutDelimiterCompletion :
    let t := after (.cutDelimiterCompletion 0)
      (withLink { busyLink with cutDelimiters := 1, transmitter := .finishing LineConfig.reset })
    (t.link 0).cutDelimiters = 0 ∧ (t.link 0).transmitter = .sendingFrame LineConfig.reset := by
  decide +kernel

/-- No row of the table has bits. -/
theorem test_tableWord : decodeTableWord 16 0x28 = none := by decide

/-! ### Witnesses: states that meet the hypotheses of each statement, clause by clause -/

theorem witness_StepTakesTheFrontEvent :
    ({ State.reset with pending := [.statusWrite 2, .clear] } : State).pending
      = .statusWrite 2 :: [.clear] := by decide +kernel

/-- Words 0, 4 and 27 with BUSY clear and set, and words 3, 28 and 31. -/
theorem witness_BusWritesChangeTheWindow :
    State.reset.held = false ∧ State.reset.command = none
      ∧ (asking .reset .clear []).held = false ∧ (asking .reset .clear []).command ≠ none
      ∧ 4 ≤ (4 : BitVec 5).toNat ∧ (27 : BitVec 5).toNat < 28 ∧ 28 ≤ (28 : BitVec 5).toNat
      ∧ 28 ≤ (31 : BitVec 5).toNat := by decide +kernel

theorem witness_BusReadsAndTheInterruptLine :
    State.reset.held = false ∧ 28 ≤ (28 : BitVec 5).toNat := by decide +kernel

/-- The first value with a high byte, and codes beside the table: 00h and 32h. -/
theorem witness_CommandCodesNameTheCommands :
    256 ≤ (256 : Word).toNat
    ∧ (0x00 : Word).toNat ∉
      [0x01, 0x02, 0x03, 0x08, 0x09, 0x0A, 0x0B, 0x10, 0x11, 0x12, 0x13, 0x18, 0x19, 0x1A, 0x1B,
       0x1C, 0x1D, 0x1E, 0x1F, 0x20, 0x28, 0x29, 0x30, 0x31]
    ∧ (0x32 : Word).toNat ∉
      [0x01, 0x02, 0x03, 0x08, 0x09, 0x0A, 0x0B, 0x10, 0x11, 0x12, 0x13, 0x18, 0x19, 0x1A, 0x1B,
       0x1C, 0x1D, 0x1E, 0x1F, 0x20, 0x28, 0x29, 0x30, 0x31] := by simp

/-- Both ends of every range. -/
theorem witness_PartConfigureSetsTheSixSettings :
    (asking .reset .partConfigure [1, 2, 1, 1, 1, 1]).completes .partConfigure
      (command .partConfigure [1, 2, 1, 1, 1, 1])
    ∧ (∀ ws ∈ ([[1, 2, 1, 1, 1, 1], [255, 15, 255, 15, 255, 255]] : List (List Word)),
      let a := words ws
      (1 ≤ a[0].toNat ∧ a[0].toNat ≤ 255) ∧ (2 ≤ a[1].toNat ∧ a[1].toNat ≤ 15)
        ∧ (1 ≤ a[2].toNat ∧ a[2].toNat ≤ 255) ∧ (1 ≤ a[3].toNat ∧ a[3].toNat ≤ 15)
        ∧ (1 ≤ a[4].toNat ∧ a[4].toNat ≤ 255) ∧ (1 ≤ a[5].toNat ∧ a[5].toNat ≤ 255))
    ∧ ¬ (words [1, 16, 1, 1, 1, 1])[1].toNat ≤ 15 := by decide +kernel

theorem witness_PartPoolAndBadCommandReplies :
    (asking .reset .partQuery []).completes .partQuery (command .partQuery [])
    ∧ (asking (withRecord upLink { openRecord with txQueue := [[1]] }) .poolQuery []).completes
      .poolQuery (command .poolQuery [])
    ∧ TransmitPoolLaw (asking (withRecord upLink { openRecord with txQueue := [[1]] }) .poolQuery [])
    ∧ (asking .reset .bad []).completes .bad (command .bad []) := by decide +kernel

/-- LINK-QUERY of link 4 completes BAD-ARGUMENT (2). -/
theorem witness_FailingCommandsChangeNothing :
    commandName .linkQuery = some .linkQuery
    ∧ (asking .reset .linkQuery [4]).completes .linkQuery (command .linkQuery [4])
    ∧ ∃ t, exec .linkQuery (asking .reset .linkQuery [4]) = .next t
      ∧ decide (loByte t.word0 ≠ 0 ∧ loByte t.word0 ≠ 8 ∧ loByte t.word0 ≠ 13) = true :=
  ⟨rfl, by decide +kernel, next_of_leads (by decide +kernel)⟩

/-- Numbers 64 and 63. -/
theorem witness_FailingCommandsChangeNothing_naming :
    commandName .send = some .send ∧ namesCircuit .send = true
    ∧ (asking .reset .send [64]).completes .send (command .send [64])
    ∧ 63 < (command .send [64]).args[0].toNat
    ∧ ∃ c : CircuitNo, (command .send [63]).args[0].toNat = c.val
      ∧ (asking .reset .send [63]).record c = none := by decide +kernel

theorem witness_EveryCommandCompletesWithANamedResult :
    commandName (.linkConfigure ⟨.mark, .mark, true⟩) = some .linkConfigure
    ∧ (asking .reset .linkConfigure []).completes .linkConfigure (command .linkConfigure []) := by
  decide +kernel

/-- Pulses of 499 and 500 ns, a held part, and a part in the power-on hold. -/
theorem witness_ResetPinHoldAndPowerOn :
    State.reset.held = false ∧ 499 < 500
    ∧ ({ State.reset with held := true } : State).held = true ∧ State.reset.powering = false
    ∧ ({ State.reset with held := true, powering := true } : State).powering = true
    ∧ Instr.clear ≠ .resetnRelease
    ∧ ∀ moment rxd, Instr.clear ≠ .powerOn moment rxd :=
  ⟨rfl, by decide, rfl, rfl, rfl, by decide, fun _ _ => by simp⟩

theorem witness_ClearEmptiesTheTables :
    (asking (withRecord upLink openRecord) .clear []).completes .clear (command .clear []) := by
  decide +kernel

theorem witness_CircuitQueryReturnsEveryField :
    (asking (withRecord upLink openRecord) .circuitQuery [0]).completes .circuitQuery
      (command .circuitQuery [0])
    ∧ (asking (withRecord upLink openRecord) .circuitQuery [0]).names (command .circuitQuery [0]) 0
      openRecord := by decide +kernel

/-- A live and an ENDED record, and circuit 63. -/
theorem witness_CircuitReleaseFreesAnEndedRecord :
    (∀ r ∈ [openRecord, endedRecord],
      let s := asking (withRecord upLink r) .circuitRelease [0]
      s.completes .circuitRelease (command .circuitRelease [0])
        ∧ s.names (command .circuitRelease [0]) 0 r)
    ∧ openRecord.phase.live = true ∧ endedRecord.phase.live = false
    ∧ (asking (fullTable .reset) .circuitRelease [63]).names (command .circuitRelease [63]) 63
      endedRecord := by decide +kernel

/-- Start 64 is out of range; start 63 finds the FREE record 63 in mode 3, and nothing in mode 2. -/
theorem witness_CircuitFindReturnsTheLowestMatch :
    (asking .reset .circuitFind [63, 3, 0]).completes .circuitFind (command .circuitFind [63, 3, 0])
    ∧ ¬ (command .circuitFind [64, 3, 0]).args[0].toNat ≤ 63
    ∧ (State.reset.circuit 63).meets 3 0 0
    ∧ (∀ d : CircuitNo, 63 ≤ d.val → d < 63 → ¬ (State.reset.circuit d).meets 3 0 0)
    ∧ (∀ c : CircuitNo, 63 ≤ c.val → ¬ (State.reset.circuit c).meets 2 255 0)
    ∧ ((withRecord upLink openRecord).circuit 0).meets 1 0 5
    ∧ ((withRecord upLink openRecord).circuit 0).meets 2 1 0
    ∧ ((withRecord upLink openRecord).circuit 0).meets 4 7 0 := by
  simp only [Circuit.meets]
  decide +kernel

/-- ENDED; selection 0 and 16; every field at an end of its range. -/
theorem witness_CircuitAmendSetsTheSelectedFields :
    let s := asking (withRecord upLink openRecord) .circuitAmend [0, 15, 3, 4, 32, 9]
    let a := (command .circuitAmend [0, 15, 3, 4, 32, 9]).args
    s.completes .circuitAmend (command .circuitAmend [0, 15, 3, 4, 32, 9])
    ∧ s.names (command .circuitAmend [0, 15, 3, 4, 32, 9]) 0 openRecord
    ∧ endedRecord.phase.live = false ∧ openRecord.phase.live = true
    ∧ ¬ (words [0, 16])[1].toNat ≤ 15 ∧ ¬ 1 ≤ (words [0, 0])[1].toNat
    ∧ (1 ≤ a[1].toNat ∧ a[1].toNat ≤ 15) ∧ a[2].toNat ≤ 3
    ∧ (1 ≤ a[3].toNat ∧ a[3].toNat ≤ openRecord.quota)
    ∧ (1 ≤ a[4].toNat ∧ a[4].toNat ≤ 32 ∧ openRecord.txQueue.length ≤ a[4].toNat)
    ∧ (3 : Fin 4).val = a[2].toNat := by decide +kernel

/-- Out of range, DUPLICATE, TABLE-FULL and OK. -/
theorem witness_ServiceRegisterAddsAnEntry :
    let ws : List Word := [255, 0x030F, 64, 64, 64, 3, 32, 7]
    (asking .reset .serviceRegister ws).completes .serviceRegister (command .serviceRegister ws)
    ∧ serviceWordsInRange (words ws) ∧ ¬ serviceWordsInRange (words [0, 1, 1, 1, 1, 0, 1, 7])
    ∧ ¬ serviceWordsInRange (words [1, 0x0010, 1, 1, 1, 0, 1, 7])
    ∧ (∃ x ∈ [{ service1 with number := 255 }], x.number.toNat = (words ws)[0].toNat)
    ∧ (∀ x ∈ List.replicate 16 service1, x.number.toNat ≠ (words ws)[0].toNat)
    ∧ 16 ≤ (List.replicate 16 service1).length
    ∧ (∀ x ∈ State.reset.services, x.number.toNat ≠ (words ws)[0].toNat)
    ∧ State.reset.services.length < 16 := by
  unfold serviceWordsInRange
  decide +kernel

/-- Numbers 0, 256, an unknown one, and the known 1. -/
theorem witness_ServiceAmendAndQuery :
    let s := withService .reset service1
    let ws : List Word := [1, 0x030F, 64, 64, 64, 3, 32, 7]
    (asking s .serviceAmend ws).completes .serviceAmend (command .serviceAmend ws)
    ∧ (asking s .serviceQuery [1]).completes .serviceQuery (command .serviceQuery [1])
    ∧ (command .serviceQuery [0]).args[0].toNat = 0
    ∧ 255 < (command .serviceQuery [256]).args[0].toNat
    ∧ (∀ x ∈ s.services, x.number.toNat ≠ 255)
    ∧ s.services.find? (fun e => decide (e.number.toNat = 1)) = some service1
    ∧ serviceWordsInRange (words ws) ∧ ¬ serviceWordsInRange (words [1]) := by
  unfold serviceWordsInRange
  decide +kernel

/-- Out of range, unknown, GENTLE with and without circuits, FORCE; an offer and an OPEN circuit. -/
theorem witness_ServiceWithdrawGentleAndForce :
    let s := withService (withRecord upLink offeredRecord) service1
    let used := { service1 with active := 1 }
    (asking s .serviceWithdraw [1, 1]).completes .serviceWithdraw (command .serviceWithdraw [1, 1])
    ∧ 1 < (words [1, 2])[1].toNat ∧ 255 < (words [256])[0].toNat
    ∧ (∀ x ∈ s.services, x.number.toNat ≠ 255)
    ∧ s.services.find? (fun e => decide (e.number.toNat = 1)) = some service1
    ∧ (withService s used).services.find? (fun e => decide (e.number.toNat = 1)) = some used
    ∧ (words [1, 0])[1] = 0 ∧ (words [1, 1])[1] = 1 ∧ service1.active = 0 ∧ 0 < used.active
    ∧ s.record 0 = some offeredRecord ∧ offeredRecord.direction = .incoming
    ∧ offeredRecord.service = service1.number ∧ offeredRecord.peer = some ⟨5, 1⟩
    ∧ offeredRecord.phase = .offered ∧ ({ offeredRecord with phase := .draining }).phase.sendsData
    ∧ s.record 1 = none := by decide +kernel

/-- Each check failing alone, and an admission at exactly 512. -/
theorem witness_RequestsAreJudgedBySixChecks :
    let s := withLink upLink
    let deaf := { service1 with listening := false }
    let spent := { service1 with active := 2 }
    let last := { service1 with active := 1 }
    (∀ x ∈ (withService s service1).services, x.number ≠ 0)
    ∧ (∀ e ∈ [service1, deaf, spent, last],
      (withService s e).services.find? (fun x => decide (x.number = 1)) = some e
        ∧ e.linkMask.getLsbD 0 = true ∧ e.linkMask.getLsbD 3 = false)
    ∧ deaf.listening = false ∧ spent.listening = true ∧ last.listening = true
    ∧ spent.limit ≤ spent.active ∧ last.active < last.limit
    ∧ (∀ c, (withService (fullTable s) last).record c ≠ none)
    ∧ (∃ c, (withService s last).record c = none)
    ∧ 512 < ({ withService s last with reservationTotal := 509 } : State).reservationTotal + last.quota
    ∧ ({ withService s last with reservationTotal := 508 } : State).reservationTotal + last.quota ≤ 512
    ∧ (withService s last).record 0 = none
    ∧ ∀ d, d < (0 : CircuitNo) → (withService s last).record d ≠ none := by decide +kernel

/-- Sources 63 and 64; a repetition of an OPEN and of another circuit; a newer generation. -/
theorem witness_OpenFrameIsSearchedByItsSource :
    let s := withService (withRecord upLink { openRecord with direction := .incoming }) service1
    s.hears 0 .up (.openRequest ⟨255, 0, 5, 1⟩ 1 4) = some s
    ∧ 63 < (64 : Byte).toNat ∧ (63 : Byte).toNat ≤ 63
    ∧ (∀ c, ¬ ∃ r ∈ s.record c, r.link = 0 ∧ r.phase.counted = true ∧ ∃ p ∈ r.peer, p.circuit = 63)
    ∧ (∃ r ∈ s.record 0, r.link = 0 ∧ r.phase.counted = true ∧ ∃ p ∈ r.peer, p.circuit = 5)
    ∧ (∀ d, d < (0 : CircuitNo) → ¬ ∃ r ∈ s.record d, r.link = 0 ∧ r.phase.counted = true
      ∧ ∃ p ∈ r.peer, p.circuit = 5)
    ∧ s.record 0 = some { openRecord with direction := .incoming }
    ∧ openRecord.peer = some ⟨5, 1⟩ ∧ openRecord.phase = .opened
    ∧ openRecord.direction = .outgoing ∧ (2 : Byte) ≠ 1 := by decide +kernel

/-- Another state, ARG1 at 2, and ARG1 at 0 and 1. -/
theorem witness_CircuitAnswerOpensAnOffer :
    let s := asking (withRecord upLink offeredRecord) .circuitAnswer [0, 1, 8]
    s.completes .circuitAnswer (command .circuitAnswer [0, 1, 8])
    ∧ s.names (command .circuitAnswer [0, 1, 8]) 0 offeredRecord
    ∧ openRecord.phase ≠ .offered ∧ offeredRecord.phase = .offered
    ∧ 1 < (words [0, 2])[1].toNat ∧ (words [0, 1])[1].toNat ≤ 1 := by decide +kernel

theorem witness_OffersAreRefusedToFree :
    let s := withRecord upLink offeredRecord
    s.held = false ∧ s.record 0 = some offeredRecord ∧ offeredRecord.phase = .offered
    ∧ offeredRecord.direction = .incoming ∧ offeredRecord.peer = some ⟨5, 1⟩
    ∧ offeredRecord.holdTimer ≠ none
    ∧ (asking s .circuitRefuse [0]).completes .circuitRefuse (command .circuitRefuse [0])
    ∧ (asking s .circuitAbort [0]).completes .circuitAbort (command .circuitAbort [0])
    ∧ (command .circuitAbort [0]).args[0].toNat = (0 : CircuitNo).val
    ∧ (asking (withRecord upLink openRecord) .circuitRefuse [0]).names (command .circuitRefuse [0]) 0
      openRecord
    ∧ openRecord.phase ≠ .offered := by decide +kernel

/-- Out of range, LINK-DOWN, NO-CIRCUIT, NO-ROOM, and a call that takes the total to 512. -/
theorem witness_CircuitCallAllocatesACallingRecord :
    let ws : List Word := [3, 255, 64, 64, 3, 32, 9]
    let a := words ws
    let s := withLink upLink
    (asking s .circuitCall ws).completes .circuitCall (command .circuitCall ws)
    ∧ (a[0].toNat ≤ 3 ∧ (1 ≤ a[1].toNat ∧ a[1].toNat ≤ 255) ∧ (1 ≤ a[2].toNat ∧ a[2].toNat ≤ 64)
        ∧ (1 ≤ a[3].toNat ∧ a[3].toNat ≤ a[2].toNat) ∧ a[4].toNat ≤ 3
        ∧ (1 ≤ a[5].toNat ∧ a[5].toNat ≤ 32))
    ∧ ¬ (words [4])[0].toNat ≤ 3 ∧ a[0].toNat = (3 : LinkNo).val ∧ a[4].toNat = (3 : Fin 4).val
    ∧ (s.link 3).state ≠ .up ∧ (s.link 0).state = .up
    ∧ (∀ c, (fullTable s).record c ≠ none) ∧ s.record 0 = none
    ∧ 512 < ({ s with reservationTotal := 449 } : State).reservationTotal + a[2].toNat
    ∧ ({ s with reservationTotal := 448 } : State).reservationTotal + a[2].toNat ≤ 512
    ∧ ∀ d, d < (0 : CircuitNo) → s.record d ≠ none := by decide +kernel

theorem witness_CircuitCloseAndAbortByState :
    (∀ r ∈ [openRecord, { openRecord with txQueue := [[1]] }, callingRecord, closingRecord,
        endedRecord],
      let s := asking (withRecord upLink r) .circuitClose [0]
      s.completes .circuitClose (command .circuitClose [0])
        ∧ s.names (command .circuitClose [0]) 0 r
        ∧ (asking s .circuitAbort [0]).completes .circuitAbort (command .circuitAbort [0]))
    ∧ openRecord.phase = .opened ∧ openRecord.txQueue = []
    ∧ callingRecord.phase = .calling ∧ closingRecord.phase ≠ .opened
    ∧ closingRecord.phase.carriesData = true ∧ endedRecord.phase.live = false := by decide +kernel

theorem witness_OpeningTakesThePeerAndSupersedes :
    let s := { withRecord upLink callingRecord with
      circuits := (withRecord upLink callingRecord).circuits.set 1
        { generation := 2, record := some openRecord } }
    s.record 0 = some callingRecord ∧ callingRecord.phase = .calling
    ∧ (1 : CircuitNo) ≠ 0 ∧ s.record 1 = some openRecord ∧ openRecord.link = callingRecord.link
    ∧ openRecord.phase.counted = true ∧ (∃ p ∈ openRecord.peer, p.circuit = 5)
    ∧ s.record 2 = none := by decide +kernel

/-- Sources 63 and 64, and a match with and without a recorded peer. -/
theorem witness_FramesMatchByAddressGenerationAndPeer :
    63 < (64 : Byte).toNat ∧ (63 : Byte).toNat ≤ 63
    ∧ (withRecord upLink openRecord).matched 0 toZero = some (0, openRecord)
    ∧ (withRecord upLink callingRecord).matched 0 toZero = some (0, callingRecord) := by
  decide +kernel

theorem witness_AcceptFrameByTheMatchedRecord :
    (∀ r ∈ [openRecord, callingRecord, offeredRecord, endedRecord],
      let s := withRecord upLink r
      s.hears 0 .up (.accept toZero 4) = some s ∧ s.matched 0 toZero = some (0, r))
    ∧ (withRecord upLink callingRecord).matched 0 ⟨0, 1, 64, 1⟩ = some (0, callingRecord)
    ∧ (withLink upLink).matched 0 toZero = none
    ∧ callingRecord.phase = .calling ∧ 63 < (64 : Byte).toNat ∧ toZero.src.toNat ≤ 63
    ∧ openRecord.phase.carriesData = true ∧ openRecord.direction = .outgoing
    ∧ ({ openRecord with direction := .incoming }).direction = .incoming
    ∧ offeredRecord.phase = .offered ∧ endedRecord.phase.live = false := by decide +kernel

theorem witness_RefuseCloseAndClosedFrames :
    (∀ r ∈ [openRecord, callingRecord, offeredRecord, closingRecord, endedRecord,
        { endedRecord with peer := none }],
      let s := withRecord upLink r
      s.hears 0 .up (.refuse toZero 3) = some s ∧ s.hears 0 .up (.closed toZero) = some s
        ∧ s.hears 0 .up (.close toZero 1) = some s ∧ s.matched 0 toZero = some (0, r))
    ∧ (withLink upLink).matched 0 toZero = none
    ∧ openRecord.phase ≠ .calling ∧ callingRecord.phase = .calling
    ∧ (∀ x, openRecord.phase ≠ .closing x) ∧ closingRecord.phase = .closing .normal
    ∧ openRecord.phase.sendsData = true ∧ offeredRecord.phase = .offered
    ∧ endedRecord.phase.live = false ∧ endedRecord.peer ≠ none
    ∧ (withRecord upLink callingRecord).matched 0 ⟨0, 1, 64, 1⟩ = some (0, callingRecord) := by
  refine ⟨by decide +kernel, by decide +kernel, by decide, by decide, ?_, by decide, by decide,
    by decide, by decide, by decide, by decide +kernel⟩
  intro x
  cases x <;> decide

/-- Retry counts 4 and 5 against the limit of 5. -/
theorem witness_RetryAskAndHelloTimersExpire :
    let s := withRecord upLink openRecord
    let waiting := { openRecord with askTimer := some 250 }
    (∀ n ∈ [4, 5], ∀ r ∈ [callingRecord, closingRecord],
      (withRecord upLink { r with retryCount := n }).held = false
        ∧ (withRecord upLink { r with retryCount := n }).record 0 = some { r with retryCount := n }
        ∧ r.retryTimer ≠ none)
    ∧ callingRecord.phase = .calling ∧ closingRecord.phase = .closing .normal
    ∧ 4 < s.settings.retryLimit ∧ s.settings.retryLimit ≤ 5
    ∧ (withRecord upLink waiting).record 0 = some waiting ∧ waiting.askTimer ≠ none
    ∧ waiting.phase.sendsData = true
    ∧ (s.link 0).helloTimer ≠ none ∧ (s.link 0).state ≠ .stopped
    ∧ (s.link 0).deadTimer ≠ none ∧ (s.link 0).state = .up
    ∧ s.record 0 = some openRecord
    ∧ openRecord.retryTimer = none ∧ openRecord.askTimer = none ∧ openRecord.holdTimer = none
    ∧ (s.link 1).helloTimer = none ∧ (s.link 1).deadTimer = none := by decide +kernel

/-- Payloads of 1 and 32 bytes, and each of the checks. -/
theorem witness_DataFrameIsCheckedThenAccepted :
    (∀ r ∈ [openRecord, callingRecord, offeredRecord, closingRecord, endedRecord,
        { openRecord with phase := .closing .loss }, { openRecord with received := 4 }],
      let s := withRecord upLink r
      s.hears 0 .up (.data toZero 0 [1]) = some s
        ∧ s.hears 0 .up (.data toZero 0 (List.replicate 32 1)) = some s
        ∧ s.matched 0 toZero = some (0, r))
    ∧ 1 ≤ [(1 : Byte)].length ∧ (List.replicate 32 (1 : Byte)).length ≤ 32
    ∧ (withLink upLink).matched 0 toZero = none
    ∧ (withRecord upLink callingRecord).matched 0 ⟨0, 1, 64, 1⟩ = some (0, callingRecord)
    ∧ openRecord.phase.sendsData = true ∧ closingRecord.phase = .closing .normal
    ∧ openRecord.received ≠ openRecord.advertised
    ∧ ({ openRecord with received := 4 }).received = openRecord.advertised
    ∧ (0 : Byte) = openRecord.expected ∧ (1 : Byte) ≠ openRecord.expected := by decide +kernel

theorem witness_GrantAndAskFrames :
    (∀ r ∈ [openRecord, callingRecord, offeredRecord, endedRecord],
      let s := withRecord upLink r
      s.hears 0 .up (.grant toZero 3) = some s ∧ s.hears 0 .up (.ask toZero) = some s
        ∧ s.matched 0 toZero = some (0, r))
    ∧ (withLink upLink).matched 0 toZero = none
    ∧ (∃ q ∈ (((withRecord upLink callingRecord).heard 0).openCall 0 ⟨5, 1⟩ 0).record 0,
      q.phase = .opened) := by
  decide +kernel

/-- Limits 1 and 32767 ahead, 0 ahead and 32768 ahead of the credit limit 2. -/
theorem witness_GrantAndAskFrames_limits :
    1 ≤ ((3 : Word) - openRecord.creditLimit).toNat
    ∧ ((32769 : Word) - openRecord.creditLimit).toNat ≤ 32767
    ∧ ¬ 1 ≤ ((2 : Word) - openRecord.creditLimit).toNat
    ∧ ¬ ((32770 : Word) - openRecord.creditLimit).toNat ≤ 32767 := by
  simp [openRecord]

theorem witness_ReceiveDeliversTheOldestPayload :
    (∀ r ∈ [openRecord, callingRecord, { endedRecord with rxQueue := [⟨0, [1]⟩] }],
      let s := asking (withRecord upLink r) .receive [0]
      s.completes .receive (command .receive [0]) ∧ s.names (command .receive [0]) 0 r)
    ∧ callingRecord.phase = .calling ∧ openRecord.phase ≠ .calling ∧ openRecord.phase ≠ .offered
    ∧ openRecord.rxQueue = []
    ∧ ({ endedRecord with rxQueue := [⟨0, [1]⟩] }).rxQueue = ⟨0, [1]⟩ :: [] := by decide +kernel

/-- Lengths 0, 1, 32 and 33; a full queue, an empty pool, and room. -/
theorem witness_SendQueuesAPayload :
    let narrow := { openRecord with depth := 1, txQueue := [[1]] }
    (∀ r ∈ [openRecord, callingRecord, closingRecord, narrow],
      let s := asking (withRecord upLink r) .send [0, 32]
      s.completes .send (command .send [0, 32]) ∧ s.names (command .send [0, 32]) 0 r)
    ∧ (words [0, 0])[1].toNat = 0 ∧ 32 < (words [0, 33])[1].toNat
    ∧ 1 ≤ (words [0, 1])[1].toNat ∧ (words [0, 32])[1].toNat ≤ 32
    ∧ closingRecord.phase ≠ .calling ∧ closingRecord.phase ≠ .opened
    ∧ callingRecord.phase = .calling ∧ openRecord.phase = .opened ∧ narrow.phase = .opened
    ∧ narrow.depth ≤ narrow.txQueue.length
    ∧ ({ asking (withRecord upLink openRecord) .send [0, 1] with txFree := 0 } : State).txFree = 0
    ∧ ¬ (openRecord.depth ≤ openRecord.txQueue.length ∨ (withRecord upLink openRecord).txFree = 0)
    ∧ openRecord.askTimer.isSome = openRecord.blocked := by decide +kernel

theorem witness_LineEventsOfTheTransmitterAndReceiver :
    (withLink busyLink).held = false
    ∧ ((withLink busyLink).link 0).onLine = some (.hello 1 9)
    ∧ ((withLink busyLink).link 0).cutDelimiters = 0
    ∧ ((withLink upLink).link 0).onLine = none
    ∧ ((withLink { busyLink with cutDelimiters := 1 }).link 0).cutDelimiters ≠ 0
    ∧ ((withLink cutLink).link 0).cutDelimiters = 0 + 1
    ∧ ((withLink { cutLink with cutDelimiters := 2 }).link 0).cutDelimiters = 1 + 1
    ∧ ({ upLink with receiver := .waiting }).receiver = .waiting
    ∧ upLink.receiver ≠ .waiting ∧ upLink.transmitter = .idle
    ∧ busyLink.transmitter = .sendingFrame LineConfig.reset
    ∧ ({ cutLink with transmitter := .sendingDelimiter LineConfig.reset }).transmitter
      = .sendingDelimiter LineConfig.reset := by decide +kernel

theorem witness_SchedulerServesTheFirstSource :
    (State.reset.link 0).state = .stopped ∧ ((withLink busyLink).link 0).onLine ≠ none
    ∧ (∀ x ∈ [upLink, { upLink with helloDue := true }, { upLink with controlList := [0] },
        { upLink with answerList := [.closed toZero] }],
      ((withLink x).link 0).state ≠ .stopped ∧ ((withLink x).link 0).onLine = none
        ∧ ((withLink x).link 0) = x)
    ∧ (withRecord upLink { openRecord with txQueue := [[1]] }).dataChoice 0 = some (1, 0)
    ∧ (withRecord upLink openRecord).dataChoice 0 = none := by decide +kernel

theorem witness_DataChoiceByClassAndRoundRobin :
    (withRecord upLink { openRecord with txQueue := [[1]] }).dataChoice 0 = some (1, 0)
    ∧ (withRecord upLink openRecord).dataChoice 0 = none := by decide +kernel

theorem witness_FrameStartsCarryAndChangeTheirSource :
    (∀ r, (withRecord upLink r).record 0 = some r)
    ∧ (∀ o phase, ({ openRecord with owed := o, phase := phase }).peer = some ⟨5, 1⟩)
    ∧ ({ accept := true, grant := true } : Owed).first = some .accept
    ∧ ({ grant := true, ask := true } : Owed).first = some .grant
    ∧ ({ ask := true, closed := true } : Owed).first = some .ask
    ∧ ({ openRequest := true } : Owed).first = some .openRequest
    ∧ ({ close := true, closed := true } : Owed).first = some .close
    ∧ ({ closed := true } : Owed).first = some .closed
    ∧ (∀ payload rest, let r := { openRecord with txQueue := payload :: rest }
      r.txQueue = payload :: rest ∧ r.peer = some ⟨5, 1⟩ ∧ r.phase.sendsData = true
        ∧ r.creditLimit ≠ r.sent) :=
  ⟨fun _ => by simp [withRecord, State.record, State.circuit], fun _ _ => rfl, rfl, rfl, rfl, rfl, rfl,
    rfl, fun _ _ => ⟨rfl, rfl, rfl, by simp [openRecord]⟩⟩

/-- Link 3 and link 4; a running link; a link that finishes a character before a cut delimiter. -/
theorem witness_LinkConfigureAndQuery :
    (asking .reset .linkConfigure [3, 1]).completes .linkConfigure (command .linkConfigure [3, 1])
    ∧ (asking .reset .linkQuery [3]).completes .linkQuery (command .linkQuery [3])
    ∧ 3 < (words [4])[0].toNat ∧ (words [3])[0].toNat = (3 : LinkNo).val
    ∧ ((withLink upLink).link 0).state ≠ .stopped ∧ (State.reset.link 3).state = .stopped
    ∧ ((withLink cutLink).link 0).state = .stopped
    ∧ ((withLink cutLink).link 0).transmitter = .finishing LineConfig.reset := by decide +kernel

/-- Two good configurations at the ends of the ranges, and the four that fail one check each. -/
theorem witness_LinkConfigureAndQuery_words :
    ((1 : Word) ≠ 0 ∧ (0x1F0E : Word).toNat / 256 ≤ 31 ∧ (0x1F0E : Word).toNat % 4 ≠ 3
      ∧ (0x1F0E : Word).toNat / 16 % 16 = 0)
    ∧ ((0xFFFF : Word) ≠ 0 ∧ (0 : Word).toNat / 256 ≤ 31 ∧ (0 : Word).toNat % 4 ≠ 3
      ∧ (0 : Word).toNat / 16 % 16 = 0)
    ∧ ¬ (0 : Word) ≠ 0 ∧ ¬ (0x2000 : Word).toNat / 256 ≤ 31 ∧ ¬ (3 : Word).toNat % 4 ≠ 3
    ∧ ¬ (0x10 : Word).toNat / 16 % 16 = 0 := by simp

theorem witness_LinkStartAndLinkStop :
    (asking .reset .linkStart [0]).completes .linkStart (command .linkStart [0])
    ∧ (asking .reset .linkStop [0]).completes .linkStop (command .linkStop [0])
    ∧ 3 < (command .linkStart [4]).args[0].toNat
    ∧ (command .linkStart [0]).args[0].toNat = (0 : LinkNo).val
    ∧ (State.reset.link 0).state = .stopped ∧ ((withLink upLink).link 0).state = .up
    ∧ ((withLink { upLink with state := .seeking }).link 0).state = .seeking := by decide +kernel

/-- Epoch 0, the own epoch seen, another seen; on an UP link both epochs as held, and either other. -/
theorem witness_HelloFrameByStateAndEpochs :
    let s := withLink { upLink with state := .seeking }
    s.hears 0 .seeking (.hello 9 1) = some s ∧ s.hears 0 .seeking (.hello 0 1) = some s
    ∧ (s.link 0).ownEpoch = 1 ∧ (9 : Word) ≠ 0 ∧ (0 : Word) ≠ (s.link 0).ownEpoch
    ∧ (withLink upLink).hears 0 .up (.hello 9 1) = some (withLink upLink)
    ∧ ((withLink upLink).link 0).peerEpoch = 9
    ∧ (8 : Word) ≠ ((withLink upLink).link 0).peerEpoch := by decide +kernel

/-- A looped link with and without the frame on its path; a STOPPED and a SEEKING link. -/
theorem witness_FramesThatNoLinkControllerTakes :
    (Frame.ask toZero).fits ∧ (Frame.data toZero 0 [1]).fits
    ∧ (withLink loopedLink).held = false
    ∧ (withLink loopedLink).hears 0 ((withLink loopedLink).link 0).state (.ask toZero) = none
    ∧ (withLink { loopedLink with loopPath := lineCharacters (.ask toZero) }).hears 0 .stopped
      (.ask toZero) = some (withLink loopedLink)
    ∧ (withLink { upLink with state := .seeking }).hears 0 .seeking (.ask toZero)
      = some (withLink { upLink with state := .seeking })
    ∧ ∀ epoch seen, Frame.ask toZero ≠ .hello epoch seen :=
  ⟨trivial, by simp [Frame.fits], by decide +kernel, by decide +kernel, by decide +kernel,
    by decide +kernel, fun _ _ => by simp⟩

theorem witness_LinkEndAndDeadTimerExpiry :
    let s := withRecord upLink openRecord
    s.record 1 = none ∧ s.record 0 = some openRecord ∧ openRecord.link = 0 ∧ openRecord.link ≠ 1
    ∧ openRecord.phase.live = true ∧ endedRecord.phase.live = false
    ∧ s.held = false ∧ (s.link 0).state = .up ∧ (s.link 0).deadTimer ≠ none := by decide +kernel

theorem witness_DiscardsAndLineFaultsAreRecorded :
    State.reset.held = false ∧ (State.reset.link 0).state = .stopped
    ∧ loopedLink.config.loopback = true ∧ upLink.state ≠ .stopped ∧ upLink.config.loopback = false
    ∧ upLink.receiver ≠ .waiting ∧ ({ upLink with receiver := .waiting }).receiver = .waiting
    ∧ upLink.config.parity = .none
    ∧ LineConfig.parity { LineConfig.reset with parity := .odd } ≠ .none := by decide +kernel

/-- Every state of the assembly with every character that it tells apart, and a buffer of 39 and 40. -/
theorem witness_CharactersAreJudgedAndAssembled :
    (withLink upLink).held = false ∧ loopedLink.config.loopback = true ∧ loopedLink.loopPath = []
    ∧ ({ loopedLink with loopPath := [0xF8] }).loopPath = 0xF8 :: []
    ∧ loopedLink.receiver ≠ .waiting
    ∧ upLink.config.loopback = false ∧ upLink.receiver = .ready
    ∧ ({ upLink with receiver := .receiving LineConfig.reset }).receiver ≠ .ready
    ∧ ({ upLink with receiver := .receiving LineConfig.reset }).receiver ≠ .waiting
    ∧ ({ upLink with receiver := .waiting }).receiver = .waiting
    ∧ judge .none { samplesOf 0 with start := steady .mark } = .falseStart
    ∧ judge .none (samplesOf 0x5A) = .character 0x5A
    ∧ judge .none { samplesOf 0x5A with stop := steady .space } = .fault .framingHeld
    ∧ upLink.state ≠ .stopped ∧ upLink.assembly = .hunt
    ∧ ({ upLink with assembly := .gather }).assembly = .gather
    ∧ ({ upLink with assembly := .escaped }).assembly = .escaped
    ∧ ({ upLink with buffer := [1] }).buffer ≠ []
    ∧ 40 ≤ (List.replicate 40 (1 : Byte)).length ∧ ¬ 40 ≤ (List.replicate 39 (1 : Byte)).length
    ∧ (0xF7 : Byte) ≠ 0xF8 ∧ (0xF7 : Byte) ≠ 0xF9 ∧ (0x07 : Byte) ≠ 0x08 := by decide +kernel

/-- One judgement of each kind; one sample of a bit may differ from the other two. -/
theorem witness_CharacterSamplesAreJudgedInOrder :
    judge .none { samplesOf 0 with start := ⟨.mark, .space, .mark⟩ } = .falseStart
    ∧ judge .none { samplesOf 0 with stop := ⟨.space, .mark, .space⟩, heldAtSpace := true }
      = .fault .breakCondition
    ∧ judge .none { samplesOf 0 with stop := steady .space } = .fault .framingEnded
    ∧ judge .even { samplesOf 0 with stop := steady .space } = .fault .framingHeld
    ∧ judge .even (samplesOf 0) = .fault .parity
    ∧ judge .odd { samplesOf 0 with start := ⟨.space, .mark, .space⟩ } = .character 0 := by
  decide +kernel

theorem witness_NextNoticeCollectsTheHead :
    (asking .reset .nextNotice []).completes .nextNotice (command .nextNotice [])
    ∧ State.reset.noticeList = []
    ∧ (after (.dataFrame 0 toZero 0 [1]) (withRecord upLink openRecord)).noticeList
      = .circuit 0 :: []
    ∧ (after (.dataFrame 0 toZero 0 [1]) (withRecord upLink openRecord)).record 0 ≠ none
    ∧ (after (.frameDiscard 0 .crc) (withLink upLink)).noticeList = .link 0 :: [] := by
  decide +kernel

theorem witness_OwingEndingAnsweringAndPosting :
    (withRecord upLink openRecord).record 0 = some openRecord ∧ openRecord.phase.sendsData = true
    ∧ (withRecord upLink closingRecord).record 0 = some closingRecord
    ∧ closingRecord.phase = .closing .normal := by decide +kernel

theorem witness_FramesSurviveTheLine :
    (Frame.data toZero 0 (List.replicate 32 0xF8)).fits
    ∧ ((withLink upLink).link 0).state ≠ .stopped ∧ ((withLink upLink).link 0).assembly = .hunt
    ∧ ({ upLink with assembly := .gather }).assembly = .gather ∧ upLink.buffer = [] :=
  ⟨by simp [Frame.fits], by decide +kernel, by decide +kernel, by decide, by decide⟩

/-- Six and seven bytes, the kinds 0, 1, 9 and 10, the shortest and the longest DATA frame and one byte
less and more, and a frame with its CRC right and wrong. -/
theorem witness_FramesSurviveTheLine_checks :
    let frame := fun (kind : Byte) (n : Nat) => kind :: List.replicate (n - 1) 0
    let good := (Frame.hello 1 0).whole
    let wrong := good.dropLast ++ [good.getLastD 0 + 1]
    (frame 1 6).length < 7 ∧ 7 ≤ (frame 0 7).length ∧ 9 < (10 : Byte).toNat
    ∧ (frame 1 8).length ≠ 7 ∧ (frame 9 7).length = 7
    ∧ ¬ 9 ≤ (frame 7 8).length ∧ 9 ≤ (frame 7 9).length ∧ (frame 7 40).length ≤ 40
    ∧ ¬ (frame 7 41).length ≤ 40
    ∧ good.length = 7 ∧ good.head? = some 1 ∧ wrong.length = 7
    ∧ good.drop 5 = [hiByte (crc16 (good.take 5)), loByte (crc16 (good.take 5))]
    ∧ wrong.drop 5 ≠ [hiByte (crc16 (wrong.take 5)), loByte (crc16 (wrong.take 5))] := by
  decide +kernel

/-- A part that keeps every law: an OPEN incoming circuit with a payload in each queue, blocked, its ASK
owed behind the HELLO on the line. -/
def lawful : State :=
  let r : Record :=
    { openRecord with
      direction := .incoming, creditLimit := 0, txQueue := [[1]], askTimer := some 250
      rxQueue := [⟨0, [2]⟩], received := 1, expected := 1, owed := { ask := true } }
  { withService (withRecord { busyLink with controlList := [0] } r) { service1 with active := 1 } with
    noticeList := [.circuit 0]
    circuitNotices := State.reset.circuitNotices.set 0 { opened := true, data := true }
    pending := [.deadTimerExpiry 0] }

theorem lawful_steps : ∃ t, step lawful = .next t ∧ decide (t.noticeList.length = 2) = true :=
  next_of_leads (i := .deadTimerExpiry 0) (s := { lawful with pending := [] }) (by decide +kernel)

theorem witness_StepsKeepTheNoticeLaws : NoticeListLaw lawful ∧ PendingLaw lawful := by
  decide +kernel

theorem witness_StepsKeepThePoolTotals :
    ReservationLaw lawful ∧ CellsHeldLaw lawful ∧ TransmitPoolLaw lawful ∧ QueueStateLaw lawful := by
  decide +kernel

theorem witness_StepsKeepCreditWithinQuotaAndSequence :
    CreditLaw lawful ∧ SequenceLaw lawful ∧ ServiceTableLaw lawful := by decide +kernel

theorem witness_StepsKeepTheLinkListsAndLeaveNothingUnsent :
    ControlListLaw lawful ∧ OwedLaw lawful ∧ LiveLinkLaw lawful ∧ AnswerListLaw lawful
      ∧ IdleLaw lawful := by decide +kernel

theorem witness_StepsKeepTheServiceTableAndItsCounts :
    ServiceTableLaw lawful ∧ ActiveCountLaw lawful ∧ CallingLaw lawful ∧ SizesLaw lawful := by
  decide +kernel

theorem witness_StepsKeepPeersUniqueAndEpochsInUse :
    PeerLaw lawful ∧ DeadTimerLaw lawful ∧ EpochLaw lawful ∧ LineLaw lawful ∧ HoldLaw lawful := by
  decide +kernel

theorem witness_StepsKeepRecordsInTheFormOfTheirState : RecordLaw lawful := by decide +kernel

/-- An allocation, an event on a live record, and one on an ENDED record. -/
theorem witness_RecordsKeepTheirIdentity :
    (∃ t, exec (.openFrame 0 ⟨255, 0, 8, 3⟩ 1 6) (withService (withLink upLink) service1) = .next t
      ∧ decide (t.record 0 ≠ none) = true)
    ∧ (∃ t, exec (.grantFrame 0 toZero 6) (withRecord upLink openRecord) = .next t
      ∧ decide (t.record 0 ≠ none) = true)
    ∧ (∃ t, exec (.closeFrame 0 toZero 1) (withRecord busyLink endedRecord) = .next t
      ∧ decide (t.record 0 ≠ none) = true)
    ∧ RecordLaw (withRecord busyLink endedRecord) ∧ endedRecord.phase.live = false :=
  ⟨next_of_leads (by decide +kernel), next_of_leads (by decide +kernel),
    next_of_leads (by decide +kernel), by decide +kernel, by decide⟩

theorem witness_CountersMoveOnlyAsTheirRulesGive :
    (withRecord upLink openRecord).record 0 = some openRecord ∧ openRecord.phase ≠ .calling
    ∧ ∃ t, exec (.grantFrame 0 toZero 6) (withRecord upLink openRecord) = .next t
      ∧ ((t.record 0).any fun r => decide (r.creditLimit ≠ openRecord.creditLimit)) = true :=
  ⟨by decide +kernel, by decide, next_of_leads (by decide +kernel)⟩

theorem witness_LinesReachOnlyTheirOwnLink :
    lineOf (.deadTimerExpiry 0) = some 0 ∧ ControlListLaw lawful
    ∧ (∃ t, exec (.deadTimerExpiry 0) lawful = .next t ∧ decide (t.record 1 = none) = true)
    ∧ (1 : LinkNo) ≠ 0 :=
  ⟨rfl, by decide +kernel, next_of_leads (by decide +kernel), by decide⟩

end Sys2Proof.Tests
end

section
/-! PROOFS. CIRCUIT-FIND (chapter 1, R22): the completion of a command in progress, the range check and the
criterion as the statements put them, and the search as the lowest circuit that meets the criterion. -/

namespace Sys2Proof.Machine

/-! ### Completion of a command -/

/-- The command in progress completes with its effect and its reply (R167). -/
theorem State.completing_of_completes {s : State} {name : CommandName} {cmd : Command}
    (h : s.completes name cmd) (effect : Command → State → Reply × State) :
    s.completing name effect = .next ((effect cmd s).2.complete cmd (effect cmd s).1) := by
  obtain ⟨hheld, hcommand, hname⟩ := h
  simp [State.completing, State.unlessHeld, hheld, hcommand, hname]

/-- A reply without DATA words settles the command and writes its ARG words. -/
theorem State.complete_args (s : State) (cmd : Command) (result : ResultCode)
    (words : List (Fin 8 × Word)) :
    s.complete cmd { result := result, args := words } =
      { s.settled cmd result.code with args := writeWords s.args words } := rfl

/-- A reply without return words settles the command and changes nothing else. -/
@[simp] theorem State.complete_bare (s : State) (cmd : Command) (result : ResultCode) :
    s.complete cmd (.bare result) = s.settled cmd result.code := rfl

/-! ### The arguments and the criterion of CIRCUIT-FIND -/

theorem inRange_iff (lo hi n : Nat) : inRange lo hi n = true ↔ lo ≤ n ∧ n ≤ hi := by
  simp [inRange]

/-- The range of each mode and of the match values that it reads (R22). -/
theorem findArgsOk_iff (mode v1 v2 : Nat) :
    findArgsOk mode v1 v2 = true ↔
      (mode = 1 ∧ v1 ≤ 3 ∧ v2 ≤ 63) ∨ (mode = 2 ∧ 1 ≤ v1 ∧ v1 ≤ 255)
        ∨ (mode = 3 ∧ v1 ≤ 6) ∨ mode = 4 := by
  match mode with
  | 1 | 2 | 3 => simp [findArgsOk, inRange_iff]
  | 4 => simp [findArgsOk]
  | 0 | _ + 5 => simp [findArgsOk]

/-- The ranges of the start, the mode and the match values (R22). -/
def Command.findInRange (cmd : Command) : Bool :=
  inRange 0 63 cmd.args[0].toNat
    && findArgsOk cmd.args[1].toNat cmd.args[2].toNat cmd.args[3].toNat

theorem Command.findInRange_iff (cmd : Command) :
    cmd.findInRange = true ↔
      cmd.args[0].toNat ≤ 63 ∧
        ((cmd.args[1].toNat = 1 ∧ cmd.args[2].toNat ≤ 3 ∧ cmd.args[3].toNat ≤ 63)
          ∨ (cmd.args[1].toNat = 2 ∧ 1 ≤ cmd.args[2].toNat ∧ cmd.args[2].toNat ≤ 255)
          ∨ (cmd.args[1].toNat = 3 ∧ cmd.args[2].toNat ≤ 6) ∨ cmd.args[1].toNat = 4) := by
  rw [Command.findInRange, Bool.and_eq_true, inRange_iff, findArgsOk_iff]
  simp

/-- The computed criterion is the stated one, mode by mode; a FREE circuit meets none but that of
mode 3. -/
theorem findMatches_iff_meets (mode v1 v2 : Nat) (x : Circuit) :
    findMatches mode v1 v2 x = true ↔ x.meets mode v1 v2 := by
  obtain ⟨generation, record⟩ := x
  match mode, record with
  | 1, none | 2, none | 4, none => simp [findMatches, Circuit.meets]
  | 1, some r => cases hpeer : r.peer <;> simp [findMatches, Circuit.meets, hpeer]
  | 2, some r | 4, some r => simp [findMatches, Circuit.meets]
  | 3, _ => simp [findMatches, Circuit.meets]
  | 0, _ | _ + 5, _ => simp [findMatches, Circuit.meets]

/-! ### The search -/

/-- The lowest-numbered circuit with a property is what the search of the table finds. -/
theorem allCircuits_find?_eq_some {p : CircuitNo → Bool} {c : CircuitNo} (hc : p c = true)
    (lowest : ∀ d < c, p d = false) : allCircuits.find? p = some c := by
  refine List.find?_eq_some_iff_getElem.2 ⟨hc, c.val, by simp [allCircuits], by simp [allCircuits], ?_⟩
  intro j hj
  simp [allCircuits, lowest ⟨j, by omega⟩ hj]

/-- The circuit that CIRCUIT-FIND finds: the first in rising order, from the start on, that meets the
criterion (R22). -/
def State.firstMatch (s : State) (start mode v1 v2 : Nat) : Option CircuitNo :=
  allCircuits.find? fun c => decide (start ≤ c.val) && findMatches mode v1 v2 (s.circuit c)

theorem State.firstMatch_eq_none {s : State} {start mode v1 v2 : Nat}
    (h : ∀ c : CircuitNo, start ≤ c.val → ¬ (s.circuit c).meets mode v1 v2) :
    s.firstMatch start mode v1 v2 = none := by
  simpa [State.firstMatch, allCircuits, findMatches_iff_meets] using h

theorem State.firstMatch_eq_some {s : State} {start mode v1 v2 : Nat} {c : CircuitNo}
    (from_start : start ≤ c.val) (meets : (s.circuit c).meets mode v1 v2)
    (lowest : ∀ d : CircuitNo, start ≤ d.val → d < c → ¬ (s.circuit d).meets mode v1 v2) :
    s.firstMatch start mode v1 v2 = some c := by
  apply allCircuits_find?_eq_some
  · simp [from_start, findMatches_iff_meets, meets]
  · intro d below
    simp only [Bool.and_eq_false_imp, decide_eq_true_eq]
    intro hd
    exact Bool.eq_false_iff.2 fun found => lowest d hd below ((findMatches_iff_meets ..).1 found)

/-- The circuit that CIRCUIT-FIND finds with the arguments of a command. -/
abbrev State.found (s : State) (cmd : Command) : Option CircuitNo :=
  s.firstMatch cmd.args[0].toNat cmd.args[1].toNat cmd.args[2].toNat cmd.args[3].toNat

/-! ### The three outcomes of CIRCUIT-FIND -/

theorem exec_circuitFind_eq (s : State) : exec .circuitFind s = execCircuitFind s := rfl

theorem exec_circuitFind_badArgument {s : State} {cmd : Command} (h : s.completes .circuitFind cmd)
    (bad : cmd.findInRange = false) :
    exec .circuitFind s = .next (s.settled cmd 2) := by
  unfold Command.findInRange at bad
  rw [exec_circuitFind_eq, execCircuitFind, State.completing_of_completes h]
  simp [bad, ResultCode.code]

theorem exec_circuitFind_notFound {s : State} {cmd : Command} (h : s.completes .circuitFind cmd)
    (ok : cmd.findInRange = true) (none_found : s.found cmd = none) :
    exec .circuitFind s = .next (s.settled cmd 14) := by
  unfold Command.findInRange at ok
  unfold State.found State.firstMatch at none_found
  rw [exec_circuitFind_eq, execCircuitFind, State.completing_of_completes h]
  simp [ok, none_found, ResultCode.code]

theorem exec_circuitFind_found {s : State} {cmd : Command} {c : CircuitNo}
    (h : s.completes .circuitFind cmd) (ok : cmd.findInRange = true)
    (found : s.found cmd = some c) :
    exec .circuitFind s = .next
      { s.settled cmd 0 with
        args := writeWords s.args
          [(0, wordOf c.val),
            (1, pack (byteOf (s.circuit c).stateCode) (s.circuit c).generation),
            (2, ((s.record c).map Record.tag).getD 0)] } := by
  unfold Command.findInRange at ok
  unfold State.found State.firstMatch at found
  rw [exec_circuitFind_eq, execCircuitFind, State.completing_of_completes h]
  cases hrecord : (s.circuit c).record <;>
    simp [ok, found, State.complete_args, State.record, hrecord, ResultCode.code]

/-! ### The obligation -/

/-- Settles O14: the range check, the criterion and the search are as stated, and each of the three
outcomes follows. -/
theorem circuitFindReturnsTheLowestMatch : Obligations.CircuitFindReturnsTheLowestMatch := by
  intro s cmd h
  dsimp only
  rw [← Command.findInRange_iff]
  refine ⟨fun bad => ?_, fun ok none_meets => ?_, fun ok c from_start meets lowest => ?_⟩
  · exact exec_circuitFind_badArgument h (Bool.eq_false_iff.2 bad)
  · exact exec_circuitFind_notFound h ok (State.firstMatch_eq_none none_meets)
  · rw [exec_circuitFind_found h ok (State.firstMatch_eq_some from_start meets lowest)]
    cases s.record c <;> rfl

end Sys2Proof.Machine
end

section
/-! PROOFS. Credit within the quota and consecutive sequence numbers (chapter 4, R75 and R76): the law of one
record, what each shared operation keeps of it, and that every event keeps it. -/

namespace Sys2Proof.Machine

-- The many short proofs below, elaborated side by side, would pass the check's limit of memory in threads.
set_option Elab.async false

/-! ### The law of one record -/

/-- R75 and R76 for one record, with the range of its quota (R6). -/
structure Record.CreditSound (r : Record) : Prop where
  quota_le : r.quota ≤ 64
  withinQuota : r.withinQuota
  inSequence : r.inSequence

/-- What R75 and R76 read of a record: quota, receive queue, expected sequence, received count and advertised
limit. -/
def Record.ledger (r : Record) : Nat × List RxItem × Byte × Word × Word :=
  (r.quota, r.rxQueue, r.expected, r.received, r.advertised)

theorem Record.CreditSound.of_ledger {q r : Record} (h : r.CreditSound)
    (same : q.ledger = r.ledger := by rfl) : q.CreditSound := by
  obtain ⟨hquota, hwithin, hsequence⟩ := h
  simp only [Record.ledger, Prod.mk.injEq] at same
  obtain ⟨quota, rxQueue, expected, received, advertised⟩ := same
  constructor
  · rw [quota]; exact hquota
  · simpa only [Record.withinQuota, quota, rxQueue, received, advertised] using hwithin
  · simpa only [Record.inSequence, rxQueue, expected] using hsequence

theorem Record.ledger_offerLimit (k : Nat) (r : Record) (limit : Word) :
    (r.offerLimit k limit).ledger = r.ledger := by
  unfold Record.offerLimit
  split <;> rfl

theorem Record.ledger_of_amended {a : Vector Word 8} {q r : Record} (h : amended a r = some q) :
    q.ledger = r.ledger := by
  unfold amended at h
  split at h
  · cases h
  · simp only [Option.ite_none_left_eq_some, Option.some.injEq] at h
    obtain ⟨-, -, rfl⟩ := h
    rfl

/-- A fresh record has an empty queue and is advertised its whole quota (R17). -/
theorem Allocation.creditSound_record (a : Allocation) (h : a.quota ≤ 64) : a.record.CreditSound where
  quota_le := h
  withinQuota := by simp [Record.withinQuota, Allocation.record, wordOf, Nat.mod_le]
  inSequence := rfl

/-- Where the received count has not reached the advertised limit, one more frame takes one unit of credit
(R83). -/
theorem advertised_sub_received_succ {advertised received : Word} (h : received ≠ advertised) :
    (advertised - (received + 1)).toNat + 1 = (advertised - received).toNat := by
  bv_omega

/-- An accepted DATA frame turns one unit of credit into one cell held, and takes the expected sequence
(R83). -/
theorem Record.CreditSound.acceptData {r : Record} (h : r.CreditSound) (credit : r.received ≠ r.advertised)
    (payload : List Byte) : (r.acceptData r.expected payload).CreditSound where
  quota_le := h.quota_le
  withinQuota := by
    have moved := advertised_sub_received_succ credit
    have within := h.withinQuota
    simp only [Record.withinQuota, Record.acceptData, List.length_append, List.length_singleton] at within ⊢
    omega
  inSequence := by
    have earlier := h.inSequence
    simp only [Record.inSequence, Record.acceptData, List.map_append, List.length_append,
      List.length_singleton, List.range_succ, earlier]
    congr 1
    · refine List.map_congr_left fun k hk => ?_
      have hk := List.mem_range.1 hk
      obtain ⟨j, hj⟩ : ∃ j, r.rxQueue.length - k = j := ⟨_, rfl⟩
      rw [show r.rxQueue.length + 1 - k = j + 1 by omega, hj, byteOf, byteOf, BitVec.ofNat_add]
      bv_omega
    · simp [byteOf]

/-- A delivered cell leaves the head of the queue (R91). -/
theorem Record.CreditSound.dequeue {r : Record} {item : RxItem} {rest : List RxItem} (h : r.CreditSound)
    (queue : r.rxQueue = item :: rest) : ({ r with rxQueue := rest } : Record).CreditSound where
  quota_le := h.quota_le
  withinQuota := by
    have within := h.withinQuota
    simp only [Record.withinQuota, queue, List.length_cons] at within ⊢
    omega
  inSequence := by
    have whole := h.inSequence
    simp only [Record.inSequence, queue, List.map_cons, List.length_cons, List.range_succ_eq_map,
      List.cons.injEq] at whole ⊢
    simpa [Function.comp_def] using whole.2

/-- A GRANT advertises the candidate limit, which is ahead of the received count by the quota less the cells
held (R77, R105). -/
theorem Record.CreditSound.grant {r : Record} (h : r.CreditSound) :
    ({ r with advertised := r.candidate } : Record).CreditSound where
  quota_le := h.quota_le
  withinQuota := by
    have hquota := h.quota_le
    have within := h.withinQuota
    have ahead : (r.candidate - r.received).toNat = r.quota - r.rxQueue.length := by
      simp only [Record.withinQuota] at within
      simp only [Record.candidate, wordOf]
      generalize r.rxQueue.length = n at within ⊢
      bv_omega
    simp only [Record.withinQuota] at within ⊢
    change r.rxQueue.length + (r.candidate - r.received).toNat ≤ r.quota
    omega
  inSequence := h.inSequence

/-- The start of a control frame keeps the law: only a GRANT moves a counter (R105). -/
theorem Record.CreditSound.afterControl {r : Record} (h : r.CreditSound) (t : Nat) (k : ControlKind) :
    (r.afterControl t k).CreditSound := by
  cases k with
  | grant => exact h.grant
  | openRequest => exact h.of_ledger
  | close =>
    unfold Record.afterControl
    dsimp only
    split
    · exact h.of_ledger
    · exact h
  | accept => exact h
  | ask => exact h
  | closed => exact h

/-! ### The Service Table (R25) -/

theorem Service.inRange_of_ofArgs {a : Vector Word 8} {e : Service} (h : Service.ofArgs a = some e) :
    e.inRange := by
  unfold Service.ofArgs at h
  split at h
  · cases h
  · simp only [Option.ite_none_right_eq_some, Option.some.injEq, Bool.and_eq_true, inRange_iff] at h
    obtain ⟨⟨⟨⟨⟨⟨⟨number, -⟩, mask⟩, limit⟩, quota⟩, threshold⟩, depth⟩, rfl⟩ := h
    have number_ne : loByte a[0] ≠ 0 := by
      simp only [loByte]
      bv_omega
    have mask_ne : (loByte a[1]).setWidth 4 ≠ 0 := by bv_omega
    exact ⟨number_ne, mask_ne, limit.1, limit.2, quota.1, quota.2, threshold.1, threshold.2, depth.1,
      depth.2⟩

theorem perm_insertService (e : Service) (es : List Service) : (insertService e es).Perm (e :: es) := by
  induction es with
  | nil => rfl
  | cons x xs ih =>
    unfold insertService
    split
    · rfl
    · exact (ih.cons x).trans (.swap e x xs)

/-- A new number in a table with room (R28). -/
theorem ServiceTableLaw.insert {s : State} {e : Service} (h : ServiceTableLaw s) (range : e.inRange)
    (fresh : (s.service e.number).isSome = false) (room : s.services.length < Config.serviceCapacity) :
    ServiceTableLaw { s with services := insertService e s.services } := by
  obtain ⟨-, numbers, ranges⟩ := h
  have perm := perm_insertService e s.services
  have absent : e.number ∉ s.services.map Service.number := by
    simpa [State.service] using fresh
  refine ⟨?_, ?_, fun x hx => ?_⟩
  · simpa [perm.length_eq] using room
  · exact (perm.map Service.number).nodup_iff.2 (List.nodup_cons.2 ⟨absent, numbers⟩)
  · rcases List.mem_cons.1 (perm.mem_iff.1 hx) with rfl | old
    · exact range
    · exact ranges x old

/-- A change of an entry that keeps its number and its ranges (R26, R29). -/
theorem ServiceTableLaw.onService {s : State} {number : Byte} {f : Service → Service}
    (h : ServiceTableLaw s) (same : ∀ e, (f e).number = e.number)
    (range : ∀ e : Service, e.inRange → (f e).inRange) :
    ServiceTableLaw (s.onService number f) := by
  obtain ⟨length, numbers, ranges⟩ := h
  have changed : (s.onService number f).services.map Service.number = s.services.map Service.number := by
    simp only [State.onService, List.map_map]
    refine List.map_congr_left fun e _ => ?_
    simp only [Function.comp_apply]
    split <;> simp [same]
  refine ⟨by simpa [State.onService] using length, by rw [changed]; exact numbers, fun x hx => ?_⟩
  obtain ⟨e, he, rfl⟩ := List.mem_map.1 hx
  split
  · exact range e (ranges e he)
  · exact ranges e he

/-- An entry that leaves the table (R31). -/
theorem ServiceTableLaw.removeService {s : State} (h : ServiceTableLaw s) (number : Byte) :
    ServiceTableLaw (s.removeService number) := by
  obtain ⟨length, numbers, ranges⟩ := h
  refine ⟨(List.length_filter_le _ _).trans length, ?_, fun e he => ranges e (List.mem_of_mem_filter he)⟩
  exact numbers.sublist (List.filter_sublist.map _)

/-! ### The law of a state -/

/-- R75 and R76 for every record, with the ranges of the entries that quotas come from (R25). -/
structure State.CreditSound (s : State) : Prop where
  records : s.everyRecord fun _ r => r.CreditSound
  services : ServiceTableLaw s

theorem State.creditSound_iff (s : State) :
    s.CreditSound ↔ CreditLaw s ∧ SequenceLaw s ∧ ServiceTableLaw s := by
  constructor
  · intro h
    exact ⟨fun c r hr => ⟨(h.records c r hr).quota_le, (h.records c r hr).withinQuota⟩,
      fun c r hr => (h.records c r hr).inSequence, h.services⟩
  · rintro ⟨credit, sequence, services⟩
    exact ⟨fun c r hr => ⟨(credit c r hr).1, (credit c r hr).2, sequence c r hr⟩, services⟩

namespace State.CreditSound

variable {s : State}

/-- The law reads the records and the Service Table alone. -/
theorem same {t : State} (h : s.CreditSound) (records : ∀ d, t.record d = s.record d := by intro; rfl)
    (services : t.services = s.services := by rfl) : t.CreditSound where
  records := fun d r hr => h.records d r (records d ▸ hr)
  services := by
    have table := h.services
    unfold ServiceTableLaw at table ⊢
    rwa [services]

/-- One record is written and every other stays. -/
theorem write {t : State} {c : CircuitNo} {x : Option Record} (h : s.CreditSound)
    (sound : ∀ r ∈ x, r.CreditSound) (records : ∀ d, t.record d = if d = c then x else s.record d)
    (services : t.services = s.services) : t.CreditSound where
  records := fun d r hr => by
    rw [records d] at hr
    split at hr
    · exact sound r hr
    · exact h.records d r hr
  services := (h.same (t := { s with services := t.services }) (services := services)).services

/-- One record is changed in what the law does not read, and every other stays. -/
theorem change {t : State} {c : CircuitNo} {f : Record → Record} (h : s.CreditSound)
    (records : ∀ d, t.record d = if d = c then (s.record c).map f else s.record d)
    (ledger : ∀ r, (f r).ledger = r.ledger) (services : t.services = s.services) : t.CreditSound := by
  refine h.write (fun q hq => ?_) records services
  obtain ⟨r, hr, rfl⟩ := Option.map_eq_some_iff.1 hq
  exact (h.records c r hr).of_ledger (ledger r)

end State.CreditSound

/-! ### What the shared operations keep -/

namespace State.CreditSound

variable {s : State}

/-! Writes of one record, one link, one pending set and one entry. -/

theorem setRecord (h : s.CreditSound) (c : CircuitNo) {r : Record} (sound : r.CreditSound) :
    (s.setRecord c (some r)).CreditSound :=
  h.write (by simpa using sound) (s.record_setRecord c · (some r)) rfl

/-- A record is written again with what the law reads of it unchanged. -/
theorem rewrite (h : s.CreditSound) {c : CircuitNo} {r q : Record} (hr : s.record c = some r)
    (ledger : q.ledger = r.ledger := by rfl) : (s.setRecord c (some q)).CreditSound :=
  h.setRecord c ((h.records c r hr).of_ledger ledger)

theorem onLink (h : s.CreditSound) (l : LinkNo) (f : Link → Link) : (s.onLink l f).CreditSound :=
  h.same

theorem answer (h : s.CreditSound) (l : LinkNo) (item : AnswerItem) : (s.answer l item).CreditSound :=
  h.onLink l _

theorem postCircuit (h : s.CreditSound) (c : CircuitNo) (k : CircuitNotice) :
    (s.postCircuit c k).CreditSound :=
  h.same

theorem postLink (h : s.CreditSound) (l : LinkNo) (k : LinkNotice) : (s.postLink l k).CreditSound :=
  h.same

theorem onService (h : s.CreditSound) (number : Byte) {f : Service → Service}
    (same : ∀ e, (f e).number = e.number) (range : ∀ e : Service, e.inRange → (f e).inRange) :
    (s.onService number f).CreditSound where
  records := h.records
  services := h.services.onService same range

theorem uncount (h : s.CreditSound) (r : Record) : (s.uncount r).CreditSound := by
  unfold State.uncount
  split
  · exact h
  · exact h.onService _ (fun _ => rfl) fun _ range => range

/-! Owed sets, endings and closes. -/

theorem putLessOwed (h : s.CreditSound) (c : CircuitNo) {r : Record} (sound : r.CreditSound) :
    (s.putLessOwed c r).CreditSound :=
  h.write (by simpa using sound) (s.record_putLessOwed c · r) (by simp)

theorem owe (h : s.CreditSound) (c : CircuitNo) (k : ControlKind) : (s.owe c k).CreditSound :=
  h.change (s.record_owe c · k) (fun _ => rfl) (by simp)

theorem disown (h : s.CreditSound) (c : CircuitNo) (k : ControlKind) : (s.disown c k).CreditSound :=
  h.change (s.record_disown c · k) (fun _ => rfl) (by simp)

theorem endCircuit (h : s.CreditSound) (c : CircuitNo) (cause : EndCause) (detail : Option Byte) :
    (s.endCircuit c cause detail).CreditSound := by
  unfold State.endCircuit
  split
  · exact h
  · rename_i r hr
    have ended : (s.putLessOwed c (r.atEnd cause detail)).CreditSound :=
      h.putLessOwed c (h.records c r hr).of_ledger
    exact uncount (postCircuit ended.same c .ended) r

theorem supersede (h : s.CreditSound) (c : CircuitNo) : (s.supersede c).CreditSound :=
  (h.owe c .close).endCircuit c .superseded none

theorem forceClose (h : s.CreditSound) (c : CircuitNo) (reason : CloseReason) :
    (s.forceClose c reason).CreditSound := by
  unfold State.forceClose
  split
  · exact h
  · rename_i r hr
    have closing (q : Record) (n : Nat) (ledger : q.ledger = r.ledger) :
        (State.owe { s.setRecord c (some q) with txFree := n } c .close).CreditSound :=
      owe ((h.rewrite hr ledger).same) c .close
    split
    · exact closing _ _ rfl
    · exact closing _ _ rfl
    · exact h.rewrite hr
    · exact h

theorem beginClosing (h : s.CreditSound) (c : CircuitNo) : (s.beginClosing c).CreditSound :=
  h.change (s.record_beginClosing c ·) (fun _ => rfl) (by simp)

theorem freeCircuit (h : s.CreditSound) (c : CircuitNo) : (s.freeCircuit c).CreditSound :=
  h.write (x := none) (by simp) (s.record_freeCircuit c ·) (by simp)

theorem refuseOffer (h : s.CreditSound) (c : CircuitNo) (reason : Byte) :
    (s.refuseOffer c reason).CreditSound := by
  unfold State.refuseOffer
  split
  · exact h
  · rename_i r hr
    exact ((h.answer r.link _).uncount r).freeCircuit c

theorem allocate (h : s.CreditSound) (c : CircuitNo) {a : Allocation} (quota : a.quota ≤ 64) :
    (s.allocate c a).CreditSound :=
  h.write (by simpa using a.creditSound_record quota) (s.record_allocate c · a) (by simp)

/-! Operations over every circuit (R153). -/

theorem forCircuits (h : s.CreditSound) {f : CircuitNo → State → State}
    (keeps : ∀ (c : CircuitNo) (t : State), t.CreditSound → (f c t).CreditSound) :
    (s.forCircuits f).CreditSound :=
  State.forCircuits_invariant State.CreditSound f keeps s h

theorem supersedeOthers (h : s.CreditSound) (l : LinkNo) (c : CircuitNo) (peerCircuit : Byte) :
    (s.supersedeOthers l c peerCircuit).CreditSound := by
  refine h.forCircuits fun d t ht => ?_
  split
  · exact ht
  · split
    · exact ht.supersede d
    · exact ht

theorem openCall (h : s.CreditSound) (c : CircuitNo) (peer : Peer) (limit : Word) :
    (s.openCall c peer limit).CreditSound := by
  unfold State.openCall
  split
  · exact h
  · rename_i r hr
    exact postCircuit (supersedeOthers (h.putLessOwed c (h.records c r hr).of_ledger) _ c _) c .opened

theorem endCircuitsOf (h : s.CreditSound) (l : LinkNo) (cause : EndCause) :
    (s.endCircuitsOf l cause).CreditSound := by
  refine h.forCircuits fun c t ht => ?_
  split
  · exact ht
  · split
    · extract_lets u
      have hu : u.CreditSound := by
        unfold u
        split
        · exact ht.endCircuit c cause none
        · exact ht
      split
      · exact hu
      · rename_i r hr
        exact hu.putLessOwed c (hu.records c r hr).of_ledger
    · exact ht

theorem endLink (h : s.CreditSound) (l : LinkNo) (cause : DownCause) : (s.endLink l cause).CreditSound :=
  ((h.endCircuitsOf l cause.endCause).onLink l _).postLink l .down

theorem recordFault (h : s.CreditSound) (l : LinkNo) (cause : FaultCause) :
    (s.recordFault l cause).CreditSound :=
  (h.onLink l _).postLink l .fault

theorem roomNotice (h : s.CreditSound) (c : CircuitNo) : (s.roomNotice c).CreditSound := by
  unfold State.roomNotice
  split
  · exact h
  · rename_i r hr
    split
    · exact postCircuit (h.rewrite hr) c .room
    · exact h

theorem afterReturns {before : State} (h : s.CreditSound) : (State.afterReturns before s).CreditSound := by
  unfold State.afterReturns
  split
  · exact h.forCircuits fun c _ ht => ht.roomNotice c
  · exact h

/-! The Link Scheduler (R101 to R108). -/

theorem startFrame (h : s.CreditSound) (l : LinkNo) (f : Frame) : (s.startFrame l f).CreditSound :=
  h.onLink l _

theorem startControl (h : s.CreditSound) (l : LinkNo) (c : CircuitNo) (rest : List CircuitNo) :
    (s.startControl l c rest).CreditSound := by
  unfold State.startControl
  split
  · exact h.onLink l _
  · rename_i r hr
    split
    · exact h.onLink l _
    · rename_i k hk
      have owesLess : ({ r with owed := r.owed.put k false } : Record).CreditSound :=
        (h.records c r hr).of_ledger
      exact ((h.setRecord c (owesLess.afterControl _ k)).onLink l _).startFrame l _

theorem startData (h : s.CreditSound) (l : LinkNo) (p : Fin 4) (c : CircuitNo) :
    (s.startData l p c).CreditSound := by
  unfold State.startData
  split
  · exact h
  · rename_i r hr
    cases hqueue : r.txQueue with
    | nil => exact h
    | cons payload rest =>
      refine startFrame ?_ l _
      split
      · exact beginClosing (onLink (h.rewrite hr) l _) c
      · exact onLink (h.rewrite hr) l _

theorem choose (h : s.CreditSound) (l : LinkNo) : (s.choose l).CreditSound := by
  unfold State.choose
  split
  · exact h.same (by simp) (by simp)
  · split
    · exact h.startControl l _ _
    · split
      · exact h.same (by simp) (by simp)
      · split
        · exact h.startData l _ _
        · exact h

theorem boundary (h : s.CreditSound) (l : LinkNo) : (s.boundary l).CreditSound := by
  unfold State.boundary
  split
  · exact h
  · exact h.choose l

theorem boundaries (h : s.CreditSound) : s.boundaries.CreditSound := by
  unfold State.boundaries
  induction allLinks generalizing s with
  | nil => exact h
  | cons l _ ih => exact ih (h.boundary l)

theorem finishClaim {before : State} (h : s.CreditSound) (l : LinkNo) :
    (State.finishClaim before s l).CreditSound :=
  h.afterReturns.boundary l

end State.CreditSound

/-! ### What frames keep (R132) -/

/-- The entry of an admitted request stands in the table (R37). -/
theorem State.mem_services_of_judgeOpen {s : State} {l : LinkNo} {service : Byte} {e : Service}
    {c : CircuitNo} (h : s.judgeOpen l service = .admitted e c) : e ∈ s.services := by
  unfold State.judgeOpen at h
  split at h
  · cases h
  · rename_i x found
    have entry : x ∈ s.services := List.mem_of_find?_eq_some found
    simp only [ite_eq_iff, reduceCtorEq, and_false, false_or] at h
    obtain ⟨-, -, -, admitted⟩ := h
    split at admitted
    · cases admitted
    · split at admitted
      · cases admitted
        exact entry
      · cases admitted

/-- A frame matches a record of the table (R133). -/
theorem State.record_of_matched {s : State} {l : LinkNo} {hdr : Header} {c : CircuitNo} {r : Record}
    (h : s.matched l hdr = some (c, r)) : s.record c = some r := by
  unfold State.matched at h
  split at h
  · cases h
  · split at h
    · cases h
    · rename_i hr
      split at h
      · cases h; exact hr
      · cases h

namespace State.CreditSound

variable {s : State}

theorem dataOn (h : s.CreditSound) (c : CircuitNo) (sequence : Byte) (payload : List Byte) :
    (s.dataOn c sequence payload).CreditSound := by
  unfold State.dataOn
  split
  · exact h
  · rename_i r hr
    split
    · exact h
    · split
      · exact h.forceClose c .violation
      · rename_i credit
        split
        · exact h.forceClose c .loss
        · rename_i inOrder
          obtain rfl : sequence = r.expected := not_not.1 inOrder
          have queued := h.setRecord c ((h.records c r hr).acceptData credit payload)
          unfold State.acceptData
          split
          · exact postCircuit queued.same c .data
          · exact queued.same

theorem grantOn (h : s.CreditSound) (c : CircuitNo) (limit : Word) : (s.grantOn c limit).CreditSound := by
  unfold State.grantOn
  split
  · exact h
  · rename_i r hr
    exact h.rewrite hr (r.ledger_offerLimit _ limit)

theorem answerStray (h : s.CreditSound) (l : LinkNo) (hdr : Header) : (s.answerStray l hdr).CreditSound := by
  unfold State.answerStray
  split
  · exact h
  · exact h.answer l _

theorem answerClosed (h : s.CreditSound) (l : LinkNo) (hdr : Header) :
    (s.answerClosed l hdr).CreditSound := by
  unfold State.answerClosed
  split
  · exact h
  · exact h.answer l _

theorem takeCredit (h : s.CreditSound) (l : LinkNo) (hdr : Header) {handle : CircuitNo → State → State}
    (keeps : ∀ (c : CircuitNo) (t : State), t.CreditSound → (handle c t).CreditSound) :
    (s.takeCredit l hdr handle).CreditSound := by
  unfold State.takeCredit
  split
  · exact h.answerStray l hdr
  · rename_i c r _
    split
    · split
      · exact h
      · exact keeps c _ (h.openCall c _ 0)
    · exact keeps c s h
    · exact keeps c s h
    · exact keeps c s h
    · exact h.answerStray l hdr
    · exact h.answerStray l hdr

/-- An admitted request takes its quota from an entry in range (R39, R40). -/
theorem acceptOpen (h : s.CreditSound) (l : LinkNo) (hdr : Header) (quota : Byte) {e : Service}
    (entry : e ∈ s.services) (c : CircuitNo) : (s.acceptOpen l hdr quota e c).CreditSound := by
  obtain ⟨-, -, -, -, -, quota_le, -⟩ := h.services.2.2 e entry
  have counted (a : Allocation) (ha : a.quota ≤ 64) :
      ((s.allocate c a).onService e.number fun x => { x with active := x.active + 1 }).CreditSound :=
    (h.allocate c ha).onService _ (fun _ => rfl) fun _ range => range
  unfold State.acceptOpen
  split
  · exact postCircuit (owe (counted _ quota_le) c .accept) c .opened
  · exact postCircuit (counted _ quota_le) c .offered

theorem requestOpen (h : s.CreditSound) (l : LinkNo) (hdr : Header) (service quota : Byte) :
    (s.requestOpen l hdr service quota).CreditSound := by
  unfold State.requestOpen
  split
  · rename_i e c admitted
    exact h.acceptOpen l hdr quota (State.mem_services_of_judgeOpen admitted) c
  · exact h.answer l _

theorem takeOpen (h : s.CreditSound) (l : LinkNo) (hdr : Header) (service quota : Byte) :
    (s.takeOpen l hdr service quota).CreditSound := by
  have repeated (c : CircuitNo) : (s.repeatOpen c).CreditSound := by
    unfold State.repeatOpen
    split
    · exact h
    · split
      · exact h.owe c .accept
      · exact h
  unfold State.takeOpen
  split
  · exact h
  · split
    · exact h.requestOpen l hdr service quota
    · rename_i c _
      split
      · exact h.requestOpen l hdr service quota
      · split
        · exact repeated c
        · exact (h.supersede c).requestOpen l hdr service quota

theorem takeAccept (h : s.CreditSound) (l : LinkNo) (hdr : Header) (quota : Byte) :
    (s.takeAccept l hdr quota).CreditSound := by
  unfold State.takeAccept
  split
  · exact h.answerStray l hdr
  · rename_i c r matched
    have answered : (if r.direction = .outgoing then
        s.setRecord c (some (r.offerLimit s.settings.askMs (quota.setWidth 16)))
        else s.answerStray l hdr).CreditSound := by
      split
      · exact h.rewrite (State.record_of_matched matched) (r.ledger_offerLimit _ _)
      · exact h.answerStray l hdr
    split
    · split
      · exact h
      · exact h.openCall c _ _
    · exact answered
    · exact answered
    · exact answered
    · exact h.answerStray l hdr
    · exact h.answerStray l hdr

theorem takeRefuse (h : s.CreditSound) (l : LinkNo) (hdr : Header) (reason : Byte) :
    (s.takeRefuse l hdr reason).CreditSound := by
  unfold State.takeRefuse
  split
  · exact h
  · split
    · exact h.endCircuit _ _ _
    · exact h

theorem takeClose (h : s.CreditSound) (l : LinkNo) (hdr : Header) (reason : Byte) :
    (s.takeClose l hdr reason).CreditSound := by
  unfold State.takeClose
  split
  · exact h.answerClosed l hdr
  · rename_i c r _
    split
    · split
      · exact h
      · exact (h.endCircuit c _ _).answerClosed l hdr
    · exact h.answerClosed l hdr
    · exact (h.owe c .closed).endCircuit c _ _
    · exact (h.owe c .closed).endCircuit c _ _
    · exact ((h.owe c .closed).disown c .close).endCircuit c _ _
    · split
      · exact h.owe c .closed
      · exact h.answerClosed l hdr

theorem takeClosed (h : s.CreditSound) (l : LinkNo) (hdr : Header) : (s.takeClosed l hdr).CreditSound := by
  unfold State.takeClosed
  split
  · exact h
  · split
    · exact (h.disown _ .close).endCircuit _ _ _
    · exact h

theorem loseLink (h : s.CreditSound) (l : LinkNo) (cause : DownCause) (peerEpoch : Word) :
    (s.loseLink l cause peerEpoch).CreditSound :=
  (h.endLink l cause).onLink l _

theorem seekingHello (h : s.CreditSound) (l : LinkNo) (epoch seen : Word) :
    (s.seekingHello l epoch seen).CreditSound := by
  unfold State.seekingHello
  split
  · exact h
  · split
    · exact (h.onLink l _).postLink l .up
    · exact h.onLink l _

theorem upHello (h : s.CreditSound) (l : LinkNo) (epoch seen : Word) :
    (s.upHello l epoch seen).CreditSound := by
  have restarted : (s.restartDead l).CreditSound := h.onLink l _
  unfold State.upHello
  split
  · exact h
  · split
    · exact restarted
    · exact restarted.loseLink l .peerRestart epoch

theorem dispatch (h : s.CreditSound) (l : LinkNo) (f : Frame) : (s.dispatch l f).CreditSound := by
  have restarted : (s.restartDead l).CreditSound := h.onLink l _
  cases f with
  | hello epoch seen => exact h.upHello l epoch seen
  | openRequest hdr service quota => exact restarted.takeOpen l hdr service quota
  | accept hdr quota => exact restarted.takeAccept l hdr quota
  | refuse hdr reason => exact restarted.takeRefuse l hdr reason
  | close hdr reason => exact restarted.takeClose l hdr reason
  | closed hdr => exact restarted.takeClosed l hdr
  | data hdr sequence payload =>
    exact restarted.takeCredit l hdr fun c _ ht => ht.dataOn c sequence payload
  | grant hdr limit => exact restarted.takeCredit l hdr fun c _ ht => ht.grantOn c limit
  | ask hdr => exact restarted.takeCredit l hdr fun c _ ht => ht.owe c .grant

theorem controller (h : s.CreditSound) (l : LinkNo) (f : Frame) : (s.controller l f).CreditSound := by
  unfold State.controller
  split
  · exact h
  · split
    · exact h.seekingHello l _ _
    · exact h
  · exact h.dispatch l f

theorem handleFrame (h : s.CreditSound) (l : LinkNo) (f : Frame) : (s.handleFrame l f).CreditSound :=
  finishClaim (controller (h.onLink l _) l f) l

theorem handleDiscard (h : s.CreditSound) (l : LinkNo) (cause : FrameFault) :
    (s.handleDiscard l cause).CreditSound :=
  (h.onLink l _).recordFault l _

theorem arrive (h : s.CreditSound) (l : LinkNo) (f : Frame) : (s.arrive l f).CreditSound := by
  unfold State.arrive
  split
  · split
    · extract_lets taken
      have advanced : taken.CreditSound := h.onLink l _
      split
      · exact advanced
      · exact advanced.handleFrame l f
    · exact h
  · split
    · exact h
    · exact h.handleFrame l f

theorem discard (h : s.CreditSound) (l : LinkNo) (cause : FrameFault) : (s.discard l cause).CreditSound := by
  unfold State.discard
  split
  · exact h
  · exact h.handleDiscard l cause

/-! Characters and line faults (R118, R146). -/

theorem deliver (h : s.CreditSound) (l : LinkNo) (b : Byte) : (s.deliver l b).CreditSound := by
  unfold State.deliver
  split
  · exact h
  · extract_lets r
    split
    · exact h.onLink l _
    · exact h.handleDiscard l _
    · split
      · exact h.handleFrame l _
      · exact h.handleDiscard l _

theorem takeLineFault (h : s.CreditSound) (l : LinkNo) (f : LineFault) :
    (s.takeLineFault l f).CreditSound := by
  have waiting : (s.setReceiver l (faultReceiver f)).CreditSound := h.onLink l _
  unfold State.takeLineFault State.deliverFault
  split
  · split
    · exact waiting
    · exact recordFault (waiting.onLink l _) l _
  · exact h

theorem watchLine (h : s.CreditSound) (l : LinkNo) (input : ReceiverInput) :
    (s.watchLine l input).CreditSound := by
  have received (r : ReceiverState) : (s.setReceiver l r).CreditSound := h.onLink l _
  unfold State.watchLine
  cases input with
  | startEdge =>
    dsimp only
    split
    · exact received _
    · exact h
  | spaceWithoutEdge =>
    dsimp only
    split
    · exact received _
    · exact h
  | character samples =>
    dsimp only
    split
    · exact h
    · split
      · exact received _
      · exact (received _).deliver l _
      · exact h.takeLineFault l _

theorem watchPath (h : s.CreditSound) (l : LinkNo) (input : ReceiverInput) :
    (s.watchPath l input).CreditSound := by
  have received (r : ReceiverState) : (s.setReceiver l r).CreditSound := h.onLink l _
  unfold State.watchPath
  split
  · exact h
  · cases input with
    | startEdge =>
      dsimp only
      split
      · exact received _
      · exact h
    | spaceWithoutEdge => exact h
    | character samples =>
      dsimp only
      split
      · exact h
      · exact deliver ((received .ready).onLink l _) l _

end State.CreditSound

/-! ### What commands keep (R167) -/

theorem CallArgs.quota_le_of_ofArgs {words : Vector Word 8} {a : CallArgs}
    (h : CallArgs.ofArgs words = some a) : a.quota ≤ 64 := by
  unfold CallArgs.ofArgs at h
  split at h
  · simp only [Option.ite_none_right_eq_some, Option.some.injEq, Bool.and_eq_true, inRange_iff] at h
    obtain ⟨⟨⟨⟨-, quota⟩, -⟩, -⟩, rfl⟩ := h
    exact quota.2
  · cases h

/-- The law holds of the next state that an event answers. -/
def CreditSoundAfter (o : StepOutcome) : Prop := ∀ t, o = .next t → t.CreditSound

namespace State.CreditSound

variable {s : State}

theorem next (h : s.CreditSound) : CreditSoundAfter (.next s) := by
  rintro t ⟨⟩
  exact h

theorem unlessHeld (h : s.CreditSound) {f : State → State} (effect : (f s).CreditSound) :
    CreditSoundAfter (s.unlessHeld f) := by
  unfold State.unlessHeld
  split
  · exact h.next
  · exact effect.next

theorem replied (h : s.CreditSound) {reply : Reply} : (reply, s).2.CreditSound := h

/-- The completion of a command adds its reply to its effect, and no reply bears on the law. -/
theorem completing (h : s.CreditSound) {name : CommandName} {effect : Command → State → Reply × State}
    (keeps : ∀ cmd, (effect cmd s).2.CreditSound) : CreditSoundAfter (s.completing name effect) := by
  refine h.unlessHeld ?_
  split
  · exact h
  · rename_i cmd _
    split
    · exact (keeps cmd).same
    · exact h

theorem forCircuit (h : s.CreditSound) (cmd : Command) {f : CircuitNo → Record → Reply × State}
    (keeps : ∀ c r, s.record c = some r → (f c r).2.CreditSound) :
    (s.forCircuit cmd f).2.CreditSound := by
  unfold State.forCircuit State.named
  cases circuitOf cmd.args[0].toNat with
  | none => exact h
  | some c =>
    cases hr : s.record c with
    | none => simpa [hr] using h
    | some r => simpa [hr] using keeps c r hr

/-! The window and its commands (chapter 9). -/

theorem busWrite (h : s.CreditSound) (word : BitVec 5) (value : Word) :
    (s.busWrite word value).CreditSound := by
  have mailbox {f : State → State} (write : (f s).CreditSound) : (s.mailbox f).CreditSound := by
    unfold State.mailbox
    split
    · exact h.same
    · exact write
  unfold State.busWrite
  split
  · exact mailbox h.same
  · split
    · exact h.same
    · split
      · exact h.same
      · split
        · exact mailbox h.same
        · split
          · exact mailbox h.same
          · exact h

theorem busWrites (h : s.CreditSound) (word : BitVec 5) (value : Word) :
    CreditSoundAfter (s.unlessHeld fun s => s.busWrite word value) :=
  h.unlessHeld (h.busWrite word value)

theorem partConfigure (h : s.CreditSound) : CreditSoundAfter (execPartConfigure s) := by
  refine h.completing fun cmd => ?_
  split
  · exact h
  · exact h.same

/-! The Service Table (chapter 2). -/

theorem serviceRegister (h : s.CreditSound) : CreditSoundAfter (execServiceRegister s) := by
  refine h.completing fun cmd => ?_
  split
  · exact h
  · rename_i e entry
    split
    · exact h
    · rename_i fresh
      split
      · exact h
      · rename_i room
        have range := Service.inRange_of_ofArgs entry
        exact ⟨h.records, h.services.insert range (Bool.eq_false_iff.2 fresh) (not_le.1 room)⟩

theorem serviceAmend (h : s.CreditSound) : CreditSoundAfter (execServiceAmend s) := by
  refine h.completing fun cmd => ?_
  split
  · exact h
  · split
    · exact h
    · rename_i old _
      split
      · exact h
      · rename_i e entry
        have new := Service.inRange_of_ofArgs entry
        exact h.onService old.number (fun _ => rfl) fun _ range => ⟨range.1, new.2⟩

theorem withdrawCircuit (h : s.CreditSound) (number : Byte) (c : CircuitNo) :
    (s.withdrawCircuit number c).CreditSound := by
  unfold State.withdrawCircuit
  split
  · exact h
  · split
    · split
      · exact (h.answer _ _).endCircuit c .withdrawn none
      · exact (h.owe c .close).endCircuit c .withdrawn none
      · exact (h.owe c .close).endCircuit c .withdrawn none
      · exact h
    · exact h

theorem removeService (h : s.CreditSound) (number : Byte) : (s.removeService number).CreditSound where
  records := h.records
  services := h.services.removeService number

theorem forceWithdraw (h : s.CreditSound) (number : Byte) : (s.forceWithdraw number).2.CreditSound := by
  have withdrawn := h.forCircuits fun c _ ht => ht.withdrawCircuit number c
  exact replied (withdrawn.removeService number).afterReturns.boundaries

theorem serviceWithdraw (h : s.CreditSound) : CreditSoundAfter (execServiceWithdraw s) := by
  refine h.completing fun cmd => ?_
  split
  · exact h
  · split
    · exact h
    · rename_i e _
      split
      · exact h.forceWithdraw e.number
      · split
        · exact h
        · exact h.removeService e.number

theorem serviceQuery (h : s.CreditSound) : CreditSoundAfter (execServiceQuery s) := by
  refine h.completing fun cmd => ?_
  split
  · exact h
  · split
    · exact h
    · exact h

/-! Circuits (chapters 1 and 3). -/

theorem declineOffer (h : s.CreditSound) (c : CircuitNo) (r : Record) :
    (s.declineOffer c r).2.CreditSound :=
  (h.refuseOffer c refuseDeclined).finishClaim r.link

theorem circuitAnswer (h : s.CreditSound) : CreditSoundAfter (execCircuitAnswer s) := by
  refine h.completing fun cmd => h.forCircuit cmd fun c r hr => ?_
  split
  · exact h
  · split
    · exact h
    · exact finishClaim (owe (h.rewrite hr) c .accept) r.link

theorem circuitRefuse (h : s.CreditSound) : CreditSoundAfter (execCircuitRefuse s) := by
  refine h.completing fun cmd => h.forCircuit cmd fun c r _ => ?_
  split
  · exact h
  · exact h.declineOffer c r

theorem circuitCall (h : s.CreditSound) : CreditSoundAfter (execCircuitCall s) := by
  refine h.completing fun cmd => ?_
  split
  · exact h
  · rename_i a asked
    split
    · exact h
    · split
      · exact h
      · rename_i c _
        split
        · exact h
        · have allocated : (s.allocate c a.allocation).CreditSound :=
            h.allocate c (CallArgs.quota_le_of_ofArgs asked)
          exact (allocated.owe c .openRequest).finishClaim a.link

theorem circuitClose (h : s.CreditSound) : CreditSoundAfter (execCircuitClose s) := by
  refine h.completing fun cmd => h.forCircuit cmd fun c r hr => ?_
  split
  · exact h
  · split
    · exact (h.beginClosing c).finishClaim r.link
    · exact h.rewrite hr

theorem circuitAbort (h : s.CreditSound) : CreditSoundAfter (execCircuitAbort s) := by
  refine h.completing fun cmd => h.forCircuit cmd fun c r _ => ?_
  have aborted : (State.finishClaim s ((s.owe c .close).endCircuit c .localAbort none) r.link).CreditSound :=
    ((h.owe c .close).endCircuit c .localAbort none).finishClaim r.link
  extract_lets reply
  split
  · exact h
  · exact h.declineOffer c r
  · exact (h.endCircuit c .localAbort none).finishClaim r.link
  · exact aborted
  · exact aborted
  · exact aborted

theorem circuitRelease (h : s.CreditSound) : CreditSoundAfter (execCircuitRelease s) := by
  refine h.completing fun cmd => h.forCircuit cmd fun c r _ => ?_
  split
  · exact h
  · exact h.freeCircuit c

theorem circuitQuery (h : s.CreditSound) : CreditSoundAfter (execCircuitQuery s) := by
  refine h.completing fun cmd => h.forCircuit cmd fun c r _ => ?_
  exact h

theorem circuitFind (h : s.CreditSound) : CreditSoundAfter (execCircuitFind s) := by
  refine h.completing fun cmd => ?_
  extract_lets mode v1 v2
  split
  · exact h
  · split
    · exact h
    · exact h

/-- A GRANT is owed where the comparison of R85 says so. -/
theorem oweGrantIf (h : s.CreditSound) (c : CircuitNo) (due : Bool) :
    (if due then s.owe c .grant else s).CreditSound := by
  split
  · exact h.owe c .grant
  · exact h

theorem circuitAmend (h : s.CreditSound) : CreditSoundAfter (execCircuitAmend s) := by
  refine h.completing fun cmd => h.forCircuit cmd fun c r hr => ?_
  split
  · exact h
  · split
    · exact h
    · split
      · exact h
      · rename_i q amendment
        exact finishClaim (oweGrantIf (h.rewrite hr (Record.ledger_of_amended amendment)) c _) r.link

/-! Data (chapters 4, 5 and 8). -/

theorem send (h : s.CreditSound) : CreditSoundAfter (execSend s) := by
  refine h.completing fun cmd => h.forCircuit cmd fun c r hr => ?_
  extract_lets n queued written t
  have sent : t.CreditSound := same (s := written) (h.rewrite hr)
  split
  · exact h
  · split
    · exact h
    · split
      · exact h.rewrite hr
      · exact sent.finishClaim r.link

theorem receive (h : s.CreditSound) : CreditSoundAfter (execReceive s) := by
  refine h.completing fun cmd => h.forCircuit cmd fun c r hr => ?_
  split
  · exact h
  · split
    · exact h
    · rename_i item rest queue
      have dequeued := h.setRecord c ((h.records c r hr).dequeue queue)
      exact finishClaim (oweGrantIf dequeued.same c _) r.link

theorem nextNotice (h : s.CreditSound) : CreditSoundAfter (execNextNotice s) := by
  refine h.completing fun cmd => ?_
  split
  · exact h
  · exact h.same
  · exact h.same

/-! Links (chapters 6 and 7). -/

theorem linkConfigure (h : s.CreditSound) (lines : LinesNow) :
    CreditSoundAfter (execLinkConfigure lines s) := by
  refine h.completing fun cmd => ?_
  split
  · exact h
  · split
    · exact h
    · split
      · exact h
      · exact replied (h.onLink _ _)

theorem linkStart (h : s.CreditSound) : CreditSoundAfter (execLinkStart s) := by
  refine h.completing fun cmd => ?_
  split
  · exact h
  · split
    · exact h
    · exact (h.onLink _ _).finishClaim _

theorem stopLink (h : s.CreditSound) (l : LinkNo) : (s.stopLink l).CreditSound := by
  have cut : (s.cutFrame l).CreditSound := h.same (by simp) (by simp)
  exact cut.onLink l _

theorem linkStop (h : s.CreditSound) : CreditSoundAfter (execLinkStop s) := by
  refine h.completing fun cmd => ?_
  split
  · exact h
  · rename_i l _
    split
    · exact h
    · exact replied ((h.stopLink l).finishClaim l)
    · exact replied (((h.endLink l .linkStopped).stopLink l).finishClaim l)

theorem linkQuery (h : s.CreditSound) : CreditSoundAfter (execLinkQuery s) := by
  refine h.completing fun cmd => ?_
  split
  · exact h
  · exact h

/-! ### What resets, timers and the lines keep -/

/-- A table without records and without entries (R24, R47). -/
theorem of_emptied (records : ∀ c, s.record c = none) (services : s.services = []) : s.CreditSound where
  records := fun c r hr => by simp [records c] at hr
  services := by simp [ServiceTableLaw, services]

theorem clear (h : s.CreditSound) : CreditSoundAfter (execClear s) := by
  have cleared : s.cleared.CreditSound :=
    of_emptied (fun c => by simp [State.cleared, State.emptied, freeAll, State.record, State.circuit]) rfl
  exact h.completing fun _ => replied cleared.boundaries

theorem resetn (rxd : Vector LineLevel 4) : (s.resetn rxd).CreditSound :=
  of_emptied (fun c => by simp [State.resetn, freeAll, State.record, State.circuit]) rfl

theorem resetnPulse (h : s.CreditSound) (lowNs : Nat) (rxd : Vector LineLevel 4) :
    CreditSoundAfter (execResetnPulse lowNs rxd s) := by
  refine h.unlessHeld ?_
  split
  · exact h
  · exact resetn rxd

theorem resetnRelease (h : s.CreditSound) : CreditSoundAfter (execResetnRelease s) := by
  refine next ?_
  split
  · exact h
  · exact h.same

theorem powerOn (moment : PowerMoment) (rxd : Vector LineLevel 4) :
    CreditSoundAfter (execPowerOn moment rxd s) := by
  cases moment with
  | supplyRises => exact next (resetn (s := s) rxd).same
  | holdEnds resetnLow =>
    refine next (of_emptied (fun c => ?_) rfl)
    simp [State.endPowerHold, State.reset, Circuit.reset, State.record, State.circuit]

theorem retransmit (h : s.CreditSound) {c : CircuitNo} {r : Record} (hr : s.record c = some r)
    (k : ControlKind) : (s.retransmit c r k).CreditSound :=
  owe (h.rewrite hr) c k

theorem retryTimerExpiry (h : s.CreditSound) (c : CircuitNo) :
    CreditSoundAfter (execRetryTimerExpiry c s) := by
  refine h.unlessHeld ?_
  split
  · exact h
  · rename_i r hr
    have repeatedOrEnded (more : Prop) [Decidable more] (k : ControlKind) (cause : EndCause) :
        (if more then s.retransmit c r k else s.endCircuit c cause none).CreditSound := by
      split
      · exact h.retransmit hr k
      · exact h.endCircuit c cause none
    split
    · exact h
    · split
      · exact (repeatedOrEnded _ .openRequest .noAnswer).finishClaim r.link
      · exact (repeatedOrEnded _ .close .closeTimeout).finishClaim r.link
      · exact h

theorem holdTimerExpiry (h : s.CreditSound) (c : CircuitNo) :
    CreditSoundAfter (execHoldTimerExpiry c s) := by
  refine h.unlessHeld ?_
  split
  · exact h
  · split
    · exact (h.refuseOffer c refuseTimeout).finishClaim _
    · exact h

theorem askTimerExpiry (h : s.CreditSound) (c : CircuitNo) :
    CreditSoundAfter (execAskTimerExpiry c s) := by
  refine h.unlessHeld ?_
  split
  · exact h
  · rename_i r hr
    split
    · exact finishClaim (owe (h.rewrite hr) c .ask) r.link
    · exact h

theorem helloTimerExpiry (h : s.CreditSound) (l : LinkNo) :
    CreditSoundAfter (execHelloTimerExpiry l s) := by
  refine h.unlessHeld ?_
  split
  · exact h
  · split
    · exact h
    · exact (h.onLink l _).finishClaim l
    · exact (h.onLink l _).finishClaim l

theorem deadTimerExpiry (h : s.CreditSound) (l : LinkNo) :
    CreditSoundAfter (execDeadTimerExpiry l s) := by
  refine h.unlessHeld ?_
  split
  · exact (h.loseLink l .linkLost 0).finishClaim l
  · exact h

theorem transmissionCompletion (h : s.CreditSound) (l : LinkNo) :
    CreditSoundAfter (execTransmissionCompletion l s) := by
  refine h.unlessHeld ?_
  split
  · exact h
  · have ended : (s.endFrame l).CreditSound := h.same (by simp) (by simp)
    exact (ended.finishClaim l).onLink l _

theorem cutDelimiterCompletion (h : s.CreditSound) (l : LinkNo) :
    CreditSoundAfter (execCutDelimiterCompletion l s) := by
  refine h.unlessHeld ?_
  split
  · exact h
  · exact h.onLink l _

theorem arrives (h : s.CreditSound) (l : LinkNo) (f : Frame) :
    CreditSoundAfter (s.unlessHeld fun s => s.arrive l f) :=
  h.unlessHeld (h.arrive l f)

theorem dataFrame (h : s.CreditSound) (l : LinkNo) (hdr : Header) (sequence : Byte) (payload : List Byte) :
    CreditSoundAfter (execDataFrame l hdr sequence payload s) := by
  refine h.unlessHeld ?_
  split
  · exact h.discard l _
  · split
    · exact h.discard l _
    · exact h.arrive l _

theorem frameDiscard (h : s.CreditSound) (l : LinkNo) (cause : FrameFault) :
    CreditSoundAfter (execFrameDiscard l cause s) :=
  h.unlessHeld (h.discard l cause)

theorem lineFault (h : s.CreditSound) (l : LinkNo) (cause : LineFault) :
    CreditSoundAfter (execLineFault l cause s) :=
  h.unlessHeld (h.takeLineFault l cause)

theorem receivedCharacter (h : s.CreditSound) (l : LinkNo) (input : ReceiverInput) :
    CreditSoundAfter (execReceivedCharacter l input s) := by
  refine h.unlessHeld ?_
  split
  · exact h.watchPath l input
  · exact h.watchLine l input

theorem returnToMark (h : s.CreditSound) (l : LinkNo) : CreditSoundAfter (execReturnToMark l s) := by
  refine h.unlessHeld ?_
  split
  · exact h.onLink l _
  · exact h

end State.CreditSound

/-! ### The obligation -/

/-- Every event keeps the law. -/
theorem exec_keeps_creditSound (i : Instr) {s : State} (h : s.CreditSound) :
    CreditSoundAfter (exec i s) := by
  cases i with
  | partConfigure => exact h.partConfigure
  | partQuery => exact h.completing fun _ => h
  | clear => exact h.clear
  | linkConfigure lines => exact h.linkConfigure lines
  | linkStart => exact h.linkStart
  | linkStop => exact h.linkStop
  | linkQuery => exact h.linkQuery
  | serviceRegister => exact h.serviceRegister
  | serviceAmend => exact h.serviceAmend
  | serviceWithdraw => exact h.serviceWithdraw
  | serviceQuery => exact h.serviceQuery
  | circuitCall => exact h.circuitCall
  | circuitAnswer => exact h.circuitAnswer
  | circuitRefuse => exact h.circuitRefuse
  | circuitClose => exact h.circuitClose
  | circuitAbort => exact h.circuitAbort
  | circuitRelease => exact h.circuitRelease
  | circuitQuery => exact h.circuitQuery
  | circuitAmend => exact h.circuitAmend
  | circuitFind => exact h.circuitFind
  | send => exact h.send
  | receive => exact h.receive
  | nextNotice => exact h.nextNotice
  | poolQuery => exact h.completing fun _ => h
  | badCommand => exact h.completing fun _ => h
  | mailboxWrite word value => exact h.busWrites word value
  | statusWrite value => exact h.busWrites 1 value
  | controlWrite value => exact h.busWrites 2 value
  | resetnPulse lowNs rxd => exact h.resetnPulse lowNs rxd
  | resetnRelease => exact h.resetnRelease
  | powerOn moment rxd => exact State.CreditSound.powerOn moment rxd
  | helloFrame l epoch seen => exact h.arrives l _
  | openFrame l hdr service quota => exact h.arrives l _
  | acceptFrame l hdr quota => exact h.arrives l _
  | refuseFrame l hdr reason => exact h.arrives l _
  | closeFrame l hdr reason => exact h.arrives l _
  | closedFrame l hdr => exact h.arrives l _
  | dataFrame l hdr sequence payload => exact h.dataFrame l hdr sequence payload
  | grantFrame l hdr limit => exact h.arrives l _
  | askFrame l hdr => exact h.arrives l _
  | frameDiscard l cause => exact h.frameDiscard l cause
  | lineFault l cause => exact h.lineFault l cause
  | retryTimerExpiry c => exact h.retryTimerExpiry c
  | holdTimerExpiry c => exact h.holdTimerExpiry c
  | askTimerExpiry c => exact h.askTimerExpiry c
  | helloTimerExpiry l => exact h.helloTimerExpiry l
  | deadTimerExpiry l => exact h.deadTimerExpiry l
  | transmissionCompletion l => exact h.transmissionCompletion l
  | commandStart value => exact h.busWrites 0 value
  | receivedCharacter l input => exact h.receivedCharacter l input
  | returnToMark l => exact h.returnToMark l
  | cutDelimiterCompletion l => exact h.cutDelimiterCompletion l

/-- Settles O52: the law of R75 and R76, put once for every record, is kept by every event, and a step is the
event at the front of the queue. -/
theorem stepsKeepCreditWithinQuotaAndSequence : Obligations.StepsKeepCreditWithinQuotaAndSequence := by
  intro s t laws leads
  rw [← State.creditSound_iff] at laws ⊢
  unfold step at leads
  split at leads
  · exact laws.next t leads
  · exact exec_keeps_creditSound _ laws.same t leads

end Sys2Proof.Machine
end

section
/-! PROOFS. PART-CONFIGURE (chapter 9, R171 and R172): the range check of the six settings as the statement
puts it, and the two outcomes. -/

namespace Sys2Proof.Machine

/-! ### The arguments of PART-CONFIGURE -/

/-- The ranges of ARG0 to ARG5 (R171). -/
abbrev Settings.InRange (a : Vector Word 8) : Prop :=
  (1 ≤ a[0].toNat ∧ a[0].toNat ≤ 255) ∧ (2 ≤ a[1].toNat ∧ a[1].toNat ≤ 15)
    ∧ (1 ≤ a[2].toNat ∧ a[2].toNat ≤ 255) ∧ (1 ≤ a[3].toNat ∧ a[3].toNat ≤ 15)
    ∧ (1 ≤ a[4].toNat ∧ a[4].toNat ≤ 255) ∧ (1 ≤ a[5].toNat ∧ a[5].toNat ≤ 255)

/-- The settings as ARG0 to ARG5 write them, whatever their ranges. -/
abbrev Settings.written (a : Vector Word 8) : Settings :=
  { hello := a[0].toNat, deadCount := a[1].toNat, retry := a[2].toNat
    retryLimit := a[3].toNat, answerHold := a[4].toNat, ask := a[5].toNat }

/-- The argument check passes all six words or none. -/
theorem Settings.ofArgs_eq_ite (a : Vector Word 8) :
    Settings.ofArgs a = if Settings.InRange a then some (Settings.written a) else none := by
  simp only [Settings.ofArgs, Bool.and_eq_true, inRange_iff, and_assoc]

/-! ### The two outcomes of PART-CONFIGURE -/

theorem exec_partConfigure_eq (s : State) : exec .partConfigure s = execPartConfigure s := rfl

theorem exec_partConfigure_ok {s : State} {cmd : Command} (h : s.completes .partConfigure cmd)
    (ok : Settings.InRange cmd.args) :
    exec .partConfigure s =
      .next { s.settled cmd 0 with settings := Settings.written cmd.args } := by
  have args : Settings.ofArgs cmd.args = some (Settings.written cmd.args) := by
    rw [Settings.ofArgs_eq_ite, if_pos ok]
  rw [exec_partConfigure_eq, execPartConfigure, State.completing_of_completes h, args]
  rfl

theorem exec_partConfigure_badArgument {s : State} {cmd : Command}
    (h : s.completes .partConfigure cmd) (bad : ¬ Settings.InRange cmd.args) :
    exec .partConfigure s = .next (s.settled cmd 2) := by
  have args : Settings.ofArgs cmd.args = none := by
    rw [Settings.ofArgs_eq_ite, if_neg bad]
  rw [exec_partConfigure_eq, execPartConfigure, State.completing_of_completes h, args]
  rfl

/-! ### The obligation -/

/-- Settles O5: the command completes by one of the two outcomes, as the six words are in range or not. -/
theorem partConfigureSetsTheSixSettings : Obligations.PartConfigureSetsTheSixSettings :=
  fun _ _ h => ⟨exec_partConfigure_ok h, exec_partConfigure_badArgument h⟩

end Sys2Proof.Machine
end

section
/-! PROOFS. How one record changes. Every rule that changes a record writes one record of one link, settles its
place on the link's control list (R135), returns or takes the cells (R73, R95), leaves the counted states with
its service told (R26) and posts at most one notice (R153). `State.Rewrites` says so once, and every operation on
one record is shown here to be such a change. -/

namespace Sys2Proof.Machine

set_option Elab.async false

/-! ### What no record and no link is part of -/

/-- The window, the settings and the queue of events: what no operation on the tables changes. -/
structure Outside where
  noticeEnable : Bool
  completionEnable : Bool
  word0 : Word
  args : Vector Word 8
  data : Vector Word 16
  done : Bool
  collide : Bool
  command : Option Command
  settings : Settings
  pending : List Instr

def State.outside (s : State) : Outside :=
  { noticeEnable := s.noticeEnable, completionEnable := s.completionEnable, word0 := s.word0
    args := s.args, data := s.data, done := s.done, collide := s.collide, command := s.command
    settings := s.settings, pending := s.pending }

/-- The same tables and links with another window. -/
def State.withOutside (s : State) (w : Outside) : State :=
  { s with
    noticeEnable := w.noticeEnable, completionEnable := w.completionEnable, word0 := w.word0
    args := w.args, data := w.data, done := w.done, collide := w.collide, command := w.command
    settings := w.settings, pending := w.pending }

@[simp] theorem State.withOutside_outside (s : State) : s.withOutside s.outside = s := rfl

@[simp] theorem State.outside_withOutside (s : State) (w : Outside) : (s.withOutside w).outside = w := rfl

/-- The fields that belong to neither a record, nor a link, nor a pool, nor the notices: kept by every
operation on the tables. -/
structure State.SameOutside (s t : State) : Prop where
  outside : t.outside = s.outside
  held : t.held = s.held
  powering : t.powering = s.powering

namespace State.SameOutside

variable {s t u : State}

theorem refl (s : State) : s.SameOutside s := ⟨rfl, rfl, rfl⟩

theorem trans (h : s.SameOutside t) (g : t.SameOutside u) : s.SameOutside u :=
  ⟨g.outside.trans h.outside, g.held.trans h.held, g.powering.trans h.powering⟩

end State.SameOutside

/-! ### Control lists (R8, R135) -/

/-- What becomes of a link's control list as circuit `c` of the link comes from owing `before` to owing
`after`. -/
inductive ControlMove (c : CircuitNo) (up : Bool) (before after : Owed) (xs : List CircuitNo) :
    List CircuitNo → Prop
  | stays (h : after.isEmpty = before.isEmpty ∨ (before.isEmpty = true ∧ up = false)) :
    ControlMove c up before after xs xs
  | joins (nothing : before.isEmpty = true) (running : up = true) (something : after.isEmpty = false) :
    ControlMove c up before after xs (xs ++ [c])
  | leaves (nothing : after.isEmpty = true) :
    ControlMove c up before after xs (xs.filter (· != c))

/-- `ControlMove` with the list that comes out named by an equation. -/
theorem ControlMove.of_eq {c : CircuitNo} {up : Bool} {a b : Owed} {xs ys zs : List CircuitNo}
    (h : ControlMove c up a b xs ys) (same : zs = ys) : ControlMove c up a b xs zs := same ▸ h

theorem filter_ne_append_self (xs : List CircuitNo) (c : CircuitNo) :
    (xs ++ [c]).filter (· != c) = xs.filter (· != c) := by
  simp [List.filter_append]

/-- Two changes of one owed set in one claim, of which the second does not bring back what the first had taken
off the list. -/
theorem ControlMove.trans {c : CircuitNo} {up : Bool} {a b o : Owed} {xs ys zs : List CircuitNo}
    (h : ControlMove c up a b xs ys) (g : ControlMove c up b o ys zs)
    (once : b.isEmpty = true → o.isEmpty = true ∨ a.isEmpty = true ∧ ys = xs) :
    ControlMove c up a o xs zs := by
  cases g with
  | stays same =>
    cases h with
    | stays earlier =>
      refine .stays ?_
      rcases same with same | same <;> rcases earlier with earlier | earlier <;> simp_all
    | joins nothing running something =>
      refine .joins nothing running ?_
      rcases same with same | same <;> simp_all
    | leaves nothing =>
      rcases once nothing with empty | ⟨empty, unmoved⟩
      · exact .leaves empty
      · rw [unmoved]
        refine .stays ?_
        rcases same with same | same <;> simp_all
  | joins nothing running something =>
    rcases once nothing with empty | ⟨empty, unmoved⟩
    · simp_all
    · exact (ControlMove.joins empty running something).of_eq (by rw [unmoved])
  | leaves nothing =>
    cases h with
    | stays => exact .leaves nothing
    | joins => rw [filter_ne_append_self]; exact .leaves nothing
    | leaves => rw [List.filter_filter]; simpa using ControlMove.leaves nothing

theorem Owed.isEmpty_of_put_false {o : Owed} {kind : ControlKind}
    (h : (o.put kind false).isEmpty = false) : o.isEmpty = false := by
  cases kind <;> simp_all [Owed.put, Owed.isEmpty]

theorem Owed.isEmpty_of_afterEnd {o : Owed} (h : o.afterEnd.isEmpty = false) : o.isEmpty = false := by
  simp_all [Owed.afterEnd, Owed.isEmpty]

/-! ### One record is rewritten -/

/-- What a record keeps from its allocation to its release: direction, link, service and quota (R3, R4, R6). -/
def Record.identity (r : Record) : Direction × LinkNo × Byte × Nat :=
  (r.direction, r.link, r.service, r.quota)

/-- The part with a notice posted for a circuit, or without. -/
def State.notify (s : State) (c : CircuitNo) : Option CircuitNotice → State
  | none => s
  | some k => s.postCircuit c k

/-- Circuit `c` of the part `s` holds `r`; in `t` it holds `r'`, and `t` is what one rule makes of `s` on the
way: nothing else changes but the place of `c` on its link's control list, the pools, the active count of its
service where it ends, and the notice `k`. -/
structure State.Rewrites (s t : State) (c : CircuitNo) (r r' : Record) (k : Option CircuitNotice) :
    Prop where
  before : s.record c = some r
  record : ∀ d, t.record d = if d = c then some r' else s.record d
  generation : ∀ d, (t.circuit d).generation = (s.circuit d).generation
  identity : r'.identity = r.identity
  live : r'.phase.live = true → r.phase.live = true
  link : ∀ m, t.link m = { s.link m with controlList := (t.link m).controlList }
  otherLink : ∀ m, m ≠ r.link → t.link m = s.link m
  control : ControlMove c (s.link r.link).isUp r.owed r'.owed (s.link r.link).controlList
    (t.link r.link).controlList
  services : t.services = if r.phase.live && !r'.phase.live then (s.uncount r).services else s.services
  txFree : t.txFree + r'.txQueue.length = s.txFree + r.txQueue.length
  cellsHeld : t.cellsHeld = s.cellsHeld + r'.rxQueue.length - r.rxQueue.length
  reservationTotal : t.reservationTotal = s.reservationTotal
  linkNotices : t.linkNotices = s.linkNotices
  circuitNotices : t.circuitNotices = (s.notify c k).circuitNotices
  noticeList : t.noticeList = (s.notify c k).noticeList
  outside : s.SameOutside t

namespace State.Rewrites

variable {s t u : State} {c : CircuitNo} {r r' q : Record} {k j : Option CircuitNotice}

theorem linkNo (h : s.Rewrites t c r r' k) : r'.link = r.link := by
  have := h.identity
  simp only [Record.identity, Prod.mk.injEq] at this
  exact this.2.1

theorem quota (h : s.Rewrites t c r r' k) : r'.quota = r.quota := by
  have := h.identity
  simp only [Record.identity, Prod.mk.injEq] at this
  exact this.2.2.2

theorem direction (h : s.Rewrites t c r r' k) : r'.direction = r.direction := by
  have := h.identity
  simp only [Record.identity, Prod.mk.injEq] at this
  exact this.1

theorem service (h : s.Rewrites t c r r' k) : r'.service = r.service := by
  have := h.identity
  simp only [Record.identity, Prod.mk.injEq] at this
  exact this.2.2.1

theorem isUp (h : s.Rewrites t c r r' k) (m : LinkNo) : (t.link m).isUp = (s.link m).isUp := by
  rw [h.link m]; rfl

theorem after (h : s.Rewrites t c r r' k) : t.record c = some r' := by simp [h.record]

/-- The services of an ending read the Service Table, the direction and the service number alone. -/
theorem uncount_services_congr {s t : State} {r q : Record} (services : t.services = s.services)
    (direction : q.direction = r.direction) (service : q.service = r.service) :
    (t.uncount q).services = (s.uncount r).services := by
  unfold State.uncount
  rw [direction]
  cases r.direction <;> simp [State.onService, services, service]

/-- Two changes of one record in one claim, of which one posts nothing. -/
theorem trans (h : s.Rewrites t c r r' k) (g : t.Rewrites u c r' q j) (once : k = none ∨ j = none)
    (owed : r'.owed.isEmpty = true → q.owed.isEmpty = true ∨
      r.owed.isEmpty = true ∧ (t.link r.link).controlList = (s.link r.link).controlList)
    (rx : r'.rxQueue = r.rxQueue ∧ q.rxQueue = r.rxQueue := by exact ⟨rfl, rfl⟩) :
    s.Rewrites u c r q (k.or j) where
  before := h.before
  record d := by
    rw [g.record, h.record]
    split <;> rfl
  generation d := (g.generation d).trans (h.generation d)
  identity := g.identity.trans h.identity
  live hq := h.live (g.live hq)
  link m := by rw [g.link m, h.link m]
  otherLink m hm := (g.otherLink m (h.linkNo ▸ hm)).trans (h.otherLink m hm)
  control := by
    have second := g.control
    rw [h.linkNo, h.isUp] at second
    exact h.control.trans second owed
  services := by
    rw [g.services, h.services]
    cases hr' : r'.phase.live with
    | false =>
      have hq : q.phase.live = false := Bool.eq_false_iff.2 fun hq => by simp [g.live hq] at hr'
      simp [hq]
    | true =>
      have same : t.services = s.services := by simpa [hr'] using h.services
      rw [uncount_services_congr same h.direction h.service]
      simp [h.live hr']
  txFree := g.txFree.trans h.txFree
  cellsHeld := by
    rw [g.cellsHeld, h.cellsHeld, rx.1, rx.2]
    omega
  reservationTotal := g.reservationTotal.trans h.reservationTotal
  linkNotices := g.linkNotices.trans h.linkNotices
  circuitNotices := by
    rw [g.circuitNotices]
    rcases once with rfl | rfl
    · cases j <;> simp [State.notify, State.postCircuit, h.circuitNotices]
    · cases k <;> simp [State.notify, h.circuitNotices]
  noticeList := by
    rw [g.noticeList]
    rcases once with rfl | rfl
    · cases j <;> simp [State.notify, State.postCircuit, h.circuitNotices, h.noticeList]
    · cases k <;> simp [State.notify, h.noticeList]
  outside := h.outside.trans g.outside

/-- A notice is posted after a change that posted none. -/
theorem post (h : s.Rewrites t c r r' none) (k : CircuitNotice) :
    s.Rewrites (t.postCircuit c k) c r r' (some k) :=
  { h with
    circuitNotices := by simp [State.notify, State.postCircuit, h.circuitNotices]
    noticeList := by simp [State.notify, State.postCircuit, h.circuitNotices, h.noticeList]
    outside := h.outside.trans ⟨rfl, rfl, rfl⟩ }

/-! The writes of which the rules are made. -/

/-- A record is written with what it owes unchanged, and the cells that it takes or returns. -/
theorem write {n m : Nat} (before : s.record c = some r) (identity : r'.identity = r.identity := by rfl)
    (owed : r'.owed = r.owed := by rfl) (live : r'.phase.live = r.phase.live := by rfl)
    (tx : n + r'.txQueue.length = s.txFree + r.txQueue.length := by rfl)
    (rx : m = s.cellsHeld + r'.rxQueue.length - r.rxQueue.length := by simp) :
    s.Rewrites { s.setRecord c (some r') with txFree := n, cellsHeld := m } c r r' none where
  before := before
  record d := s.record_setRecord c d (some r')
  generation d := s.generation_setRecord c d _
  identity := identity
  live := fun h => live ▸ h
  link _ := rfl
  otherLink _ _ := rfl
  control := .stays (.inl (by rw [owed]))
  services := by simp [live]
  txFree := tx
  cellsHeld := rx
  reservationTotal := rfl
  linkNotices := rfl
  circuitNotices := rfl
  noticeList := rfl
  outside := ⟨rfl, rfl, rfl⟩

/-- A record is written with what it owes and its cells unchanged. -/
theorem setRecord (before : s.record c = some r) (identity : r'.identity = r.identity := by rfl)
    (owed : r'.owed = r.owed := by rfl) (live : r'.phase.live = r.phase.live := by rfl)
    (tx : r'.txQueue.length = r.txQueue.length := by rfl)
    (rx : r'.rxQueue.length = r.rxQueue.length := by rfl) :
    s.Rewrites (s.setRecord c (some r')) c r r' none :=
  write before identity owed live (by simp [tx]) (by simp [rx])

/-- A record is written that owes less or the same (R135). -/
theorem putLessOwed (before : s.record c = some r) (identity : r'.identity = r.identity := by rfl)
    (owed : r'.owed.isEmpty = false → r.owed.isEmpty = false)
    (live : r'.phase.live = r.phase.live := by rfl)
    (tx : r'.txQueue.length = r.txQueue.length := by rfl)
    (rx : r'.rxQueue.length = r.rxQueue.length := by rfl) :
    s.Rewrites (s.putLessOwed c r') c r r' none where
  before := before
  record d := s.record_putLessOwed c d r'
  generation d := s.generation_putLessOwed c d r'
  identity := identity
  live := fun h => live ▸ h
  link m := by rw [State.link_putLessOwed]; split <;> rfl
  otherLink m hm := by
    simp only [Record.identity, Prod.mk.injEq] at identity
    rw [State.link_putLessOwed, if_neg (by simp [identity, hm])]
  control := by
    simp only [Record.identity, Prod.mk.injEq] at identity
    rw [State.link_putLessOwed]
    cases empty : r'.owed.isEmpty with
    | true => simpa [identity, empty] using ControlMove.leaves empty
    | false => simpa [empty] using ControlMove.stays (.inl (by rw [empty, owed empty]))
  services := by simp [live]
  txFree := by simp [tx]
  cellsHeld := by simp [rx]
  reservationTotal := by simp
  linkNotices := by simp
  circuitNotices := by simp [State.notify]
  noticeList := by simp [State.notify]
  outside := ⟨by simp [State.outside], by simp, by simp⟩

/-- A kind is owed (R8). -/
theorem owe (before : s.record c = some r) (kind : ControlKind) :
    s.Rewrites (s.owe c kind) c r { r with owed := r.owed.put kind true } none where
  before := before
  record d := by rw [State.record_owe, before]; rfl
  generation d := s.generation_owe c d kind
  identity := rfl
  live := id
  link m := by rw [State.link_owe s c kind m before]; split <;> rfl
  otherLink m hm := by rw [State.link_owe s c kind m before, if_neg (by simp [hm])]
  control := by
    rw [State.link_owe s c kind _ before]
    cases empty : r.owed.isEmpty with
    | false => simpa [empty] using ControlMove.stays (.inl (by simp [empty]))
    | true =>
      cases up : (s.link r.link).isUp with
      | true => simpa [up] using ControlMove.joins empty up (Owed.isEmpty_put_true _ _)
      | false => simpa [up] using ControlMove.stays (.inr ⟨empty, up⟩)
  services := by simp
  txFree := by simp
  cellsHeld := by simp
  reservationTotal := by simp
  linkNotices := by simp
  circuitNotices := by simp [State.notify]
  noticeList := by simp [State.notify]
  outside := ⟨by simp [State.outside], by simp, by simp⟩

/-- A kind is no longer owed (R8). -/
theorem disown (before : s.record c = some r) (kind : ControlKind) :
    s.Rewrites (s.disown c kind) c r { r with owed := r.owed.put kind false } none := by
  unfold State.disown
  rw [before]
  exact putLessOwed before (owed := Owed.isEmpty_of_put_false)

/-- A live circuit ends (R14). -/
theorem endCircuit (before : s.record c = some r) (live : r.phase.live = true) (cause : EndCause)
    (detail : Option Byte) :
    s.Rewrites (s.endCircuit c cause detail) c r (r.atEnd cause detail) (some .ended) where
  before := before
  record d := by rw [State.record_endCircuit, before]; rfl
  generation d := s.generation_endCircuit c d cause detail
  identity := rfl
  live _ := live
  link m := by rw [State.link_endCircuit s c cause detail m before]; split <;> rfl
  otherLink m hm := by rw [State.link_endCircuit s c cause detail m before, if_neg (by simp [hm])]
  control := by
    rw [State.link_endCircuit s c cause detail _ before]
    change ControlMove c _ _ r.owed.afterEnd _ _
    cases empty : r.owed.afterEnd.isEmpty with
    | true => simpa [empty] using ControlMove.leaves empty
    | false =>
      have same : r.owed.afterEnd.isEmpty = r.owed.isEmpty := by
        rw [empty, Owed.isEmpty_of_afterEnd empty]
      simpa [empty] using ControlMove.stays (.inl same)
  services := by
    have ends : (r.atEnd cause detail).phase.live = false := rfl
    unfold State.endCircuit
    simp only [before, live, ends, Bool.not_false, Bool.and_true, if_true]
    exact uncount_services_congr (by simp) rfl rfl
  txFree := by
    unfold State.endCircuit
    simp [before, Record.atEnd]
  cellsHeld := by simp [Record.atEnd]
  reservationTotal := by simp
  linkNotices := by simp
  circuitNotices := by
    unfold State.endCircuit
    simp [before, State.notify, State.postCircuit]
  noticeList := by
    unfold State.endCircuit
    simp [before, State.notify, State.postCircuit]
  outside := ⟨by simp [State.outside], by simp, by simp⟩

end State.Rewrites

end Sys2Proof.Machine
end

section
/-! PROOFS. What an event can do, said once: how a record and a link change, the moves a claim is made of, and the
forms an event takes. -/

namespace Sys2Proof.Machine

set_option Elab.async false

open Relation (ReflTransGen)

/-! ### How a record changes -/

/-- The record of a circuit that a supersede may end (R36, R52). -/
def Record.supersededIf (r : Record) (holds : Bool) : Record :=
  if holds then Record.atEnd { r with owed := r.owed.put .close true } .superseded none else r

/-- The record of a call that opens with a peer and a first credit limit (R50, R51). -/
def Record.opened (r : Record) (askMs : Nat) (peer : Peer) (limit : Word) : Record :=
  Record.settleAsk askMs r
    { r with
      phase := .opened, peer := some peer, creditLimit := limit, retryTimer := none, retryCount := 0
      owed := r.owed.put .openRequest false }

/-- The kinds that an event adds to what a record owes without changing the record (R35, R54, R85). -/
def Record.mayOwe (r : Record) : ControlKind → Prop
  | .accept => r.phase = .opened
  | .grant => r.phase.carriesData = true
  | .closed => r.phase.live = false ∧ r.peer.isSome = true
  | _ => False

/-- What an ended circuit owes fits its form, if it was in the form of its state before. -/
abbrev Record.EndFits (r : Record) (cause : EndCause) (o : Owed) : Prop :=
  r.owedKinds = true → r.presence = true →
    (!(o.accept || o.grant || o.ask || o.openRequest)
      && (!(o.close || o.closed) || r.peer.isSome)
      && (!o.close || cause == .localAbort || cause == .withdrawn || cause == .superseded)) = true

/-- The changes of a record that do not move its counters. -/
inductive Record.Change : Record → Record → Prop
  | owes {r : Record} {k : ControlKind} (may : r.mayOwe k) :
    Record.Change r { r with owed := r.owed.put k true }
  | asks {r : Record} {n : Nat} (sends : r.phase.sendsData = true) (asking : r.askTimer.isSome = true) :
    Record.Change r { r with askTimer := some n, owed := r.owed.put .ask true }
  | repeats {r : Record} {k : ControlKind}
    (phase : (r.phase = .calling ∧ k = .openRequest) ∨ (∃ x, r.phase = .closing x) ∧ k = .close) :
    Record.Change r { r with retryCount := r.retryCount + 1, retryTimer := none, owed := r.owed.put k true }
  | answers {r : Record} {tag : Word} (offered : r.phase = .offered) :
    Record.Change r
      { r with phase := .opened, tag := tag, holdTimer := none, owed := r.owed.put .accept true }
  | closes {r : Record} (phase : r.phase = .opened) (empty : r.txQueue = []) :
    Record.Change r { r with phase := .closing .normal, retryCount := 0, owed := r.owed.put .close true }
  | drains {r : Record} (phase : r.phase = .opened) (queued : r.txQueue ≠ []) :
    Record.Change r { r with phase := .draining }
  | amends {r : Record} {priority : Fin 4} {threshold depth : Nat} {tag : Word}
    (inQuota : threshold = r.threshold ∨ (1 ≤ threshold ∧ threshold ≤ r.quota))
    (holds : depth = r.depth ∨ (1 ≤ depth ∧ depth ≤ 32 ∧ r.txQueue.length ≤ depth))
    (live : r.phase.live = true) :
    Record.Change r
      { r with priority := priority, threshold := threshold, depth := depth, tag := tag }
  | wantsRoom {r : Record} (phase : r.phase = .calling ∨ r.phase = .opened) :
    Record.Change r { r with roomWanted := true }
  | hasRoom {r : Record} (wanted : r.roomWanted = true) : Record.Change r { r with roomWanted := false }
  | queues {r : Record} {n : Nat} {payload : List Byte} (phase : r.phase = .calling ∨ r.phase = .opened)
    (room : r.txQueue.length < r.depth) :
    Record.Change r (Record.settleAsk n r { r with txQueue := r.txQueue ++ [payload] })
  | breaks {r : Record} {x : CloseReason} (sends : r.phase.sendsData = true) :
    Record.Change r
      { r with
        phase := .closing x, retryCount := 0, txQueue := [], askTimer := none
        owed := r.owed.put .close true }
  | worsens {r : Record} {x : CloseReason} (phase : r.phase = .closing .normal) :
    Record.Change r { r with phase := .closing x }
  | opens {r : Record} {n : Nat} {peer : Peer} {limit : Word} (calling : r.phase = .calling)
    (fits : r.peer = none ∨ r.peer = some peer) :
    Record.Change r (r.opened n peer limit)
  | ends {r : Record} {cause : EndCause} {detail : Option Byte} {o : Owed} (live : r.phase.live = true)
    (fits : r.EndFits cause o) :
    Record.Change r { r.atEnd cause detail with owed := o }
  | forgets {r : Record} (ended : r.phase.live = false) : Record.Change r { r with owed := { } }

/-! ### How a link changes -/

/-- The changes of a link that give its scheduler nothing to send: the receive side, the line machines and the
HELLO timer of an UP link. -/
inductive Link.Tweak (x : Link) : Link → Prop
  | assembles (a : Assembly) (buffer : List Byte) : x.Tweak { x with assembly := a, buffer := buffer }
  | watches (r : ReceiverState) (fits : ∀ cfg, r = .receiving cfg → cfg = x.config) :
    x.Tweak { x with receiver := r }
  | takes (path : List Byte) (looped : x.config.loopback = true) : x.Tweak { x with loopPath := path }
  | faults (cause : FaultCause) : x.Tweak { x with lastFault := cause }
  | configures (cfg : LineConfig) (lines : LinesNow) (stopped : x.state = .stopped) :
    x.Tweak (x.configure cfg lines)
  | endsDelimiter (due : x.cutDelimiters ≠ 0) : x.Tweak x.endDelimiter
  | idles (n : Nat) (up : x.isUp = true) : x.Tweak { x with helloTimer := some n }

/-- The changes of a link after which its scheduler may have something to send, and the handshake. -/
inductive Link.Work (x : Link) : Link → Prop
  | starts (h : Nat) (stopped : x.state = .stopped) : x.Work (x.seek h 0).huntEmpty
  | hears (n : Nat) (up : x.isUp = true) : x.Work { x with deadTimer := some n }
  | notes (epoch : Word) (seeking : x.state = .seeking) :
    x.Work { x with peerEpoch := epoch, helloDue := true }
  | comesUp (epoch : Word) (n : Nat) (seeking : x.state = .seeking) :
    x.Work
      { x with
        peerEpoch := epoch, state := .up, deadTimer := some n, helloTimer := none, helloDue := true }
  | dueHello (timer : Timer) (running : x.state ≠ .stopped) :
    x.Work { x with helloDue := true, helloTimer := timer }

/-! ### The moves of a claim -/

/-- A link that is UP, or has a live circuit and so ought to be (R16). -/
def State.Runs (s : State) (l : LinkNo) : Prop :=
  (s.link l).isUp = true ∨ ∃ c r, s.record c = some r ∧ r.link = l ∧ r.phase.live = true

/-- A record of link `l` changes by a rule, and the rest of the part with it. -/
def RecordStep (l : LinkNo) (s t : State) : Prop :=
  ∃ c r r' k, r.link = l ∧ r.Change r' ∧ (r'.owed.isEmpty = false → r.owed.isEmpty = false ∨ s.Runs l)
    ∧ s.Rewrites t c r r' k

/-- A record that has not more to send or to owe than it had. -/
structure Record.Quiet (r r' : Record) : Prop where
  owed : r'.owed = r.owed
  eligible : ∀ m, r'.eligible m = true → r.eligible m = true ∧ r'.priority = r.priority
  counted : r'.phase.counted = true → r.phase.counted = true

/-- What happens on a link without giving its scheduler anything to send. -/
inductive Tweak (l : LinkNo) (s : State) : State → Prop
  | link {x : Link} (h : (s.link l).Tweak x) : Tweak l s (s.setLink l x)
  | post (k : LinkNotice) : Tweak l s (s.postLink l k)
  | record {t : State} {c : CircuitNo} {r r' : Record} {k : Option CircuitNotice} (on : r.link = l)
    (change : r.Change r') (quiet : r.Quiet r') (rewrites : s.Rewrites t c r r' k) : Tweak l s t
  | collectCircuit {c : CircuitNo} {rest : List Source} (head : s.noticeList = .circuit c :: rest) :
    Tweak l s { s with circuitNotices := s.circuitNotices.set c { }, noticeList := rest }
  | collectLink {m : LinkNo} {rest : List Source} (head : s.noticeList = .link m :: rest) :
    Tweak l s { s with linkNotices := s.linkNotices.set m { }, noticeList := rest }

/-- What a link end does to the link itself (R127). -/
def State.linkDown (s : State) (l : LinkNo) (cause : DownCause) : State :=
  (s.onLink l fun x =>
    { x with controlList := [], answerList := [], deadTimer := none, lastDown := some cause }).postLink l
    .down

/-- Every circuit of a link has ended and owes nothing. -/
def State.Settled (s : State) (l : LinkNo) : Prop :=
  ∀ c r, s.record c = some r → r.link = l → r.phase.live = false ∧ r.owed = { }

/-- What a rule does on link `l` or on a circuit of it, as often as a claim wants. -/
inductive Move (l : LinkNo) (s : State) : State → Prop
  | tweak {t : State} (h : Tweak l s t) : Move l s t
  | work {x : Link} (h : (s.link l).Work x) : Move l s (s.setLink l x)
  | record {t : State} {c : CircuitNo} {r r' : Record} {k : Option CircuitNotice} (on : r.link = l)
    (change : r.Change r') (counted : r'.phase.counted = true → r.phase.counted = true)
    (runs : r'.owed.isEmpty = false → r.owed.isEmpty = false ∨ s.Runs l)
    (rewrites : s.Rewrites t c r r' k) : Move l s t
  | opens {u : State} {c : CircuitNo} {r r' : Record} {peer : Peer} (on : r.link = l)
    (before : s.record c = some r) (taken : r'.link = l ∧ r'.peer = some peer)
    (steps : ReflTransGen (RecordStep l) s u)
    (record : ∀ d, u.record d = if d = c then some r' else
      (s.record d).map fun q => q.supersededIf (q.holdsPeer l peer.circuit)) :
    Move l s (u.postCircuit c .opened)
  | answer (item : AnswerItem) (runs : s.Runs l) : Move l s (s.answer l item)
  | loses (cause : DownCause) (h : Nat) (epoch : Word) (up : (s.link l).isUp = true) (settled : s.Settled l) :
    Move l s ((s.linkDown l cause).onLink l fun x => x.seek h epoch)
  | stops (cause : DownCause) (up : (s.link l).isUp = true) (settled : s.Settled l) :
    Move l s ((s.linkDown l cause).stopLink l)
  | halts (seeking : (s.link l).state = .seeking) : Move l s (s.stopLink l)
  | endsFrame (sending : (s.link l).onLine.isSome = true) (begun : (s.link l).cutDelimiters = 0) :
    Move l s (s.endFrame l)

/-- What the rules do on link `l`, one after another. -/
abbrev Moves (l : LinkNo) : State → State → Prop := ReflTransGen (Move l)

/-! ### What a claim does at most once -/

/-- The three records that an allocation fills, with what they owe then (R17, R39, R40, R48). -/
inductive Allocation.Fresh : Allocation → Owed → Prop
  | call {a : Allocation} (phase : a.phase = .calling) (direction : a.direction = .outgoing)
    (peer : a.peer = none) (credit : a.creditLimit = 0) (hold : a.holdTimer = none) :
    Allocation.Fresh a { openRequest := true }
  | auto {a : Allocation} {p : Peer} (phase : a.phase = .opened) (direction : a.direction = .incoming)
    (peer : a.peer = some p) (hold : a.holdTimer = none) : Allocation.Fresh a { accept := true }
  | hold {a : Allocation} {p : Peer} {n : Nat} (phase : a.phase = .offered)
    (direction : a.direction = .incoming) (peer : a.peer = some p) (hold : a.holdTimer = some n) :
    Allocation.Fresh a { }

/-- A FREE record is allocated (R17, R18). -/
structure State.Allocates (s t : State) (c : CircuitNo) (a : Allocation) (o : Owed)
    (k : Option CircuitNotice) : Prop where
  fresh : a.Fresh o
  free : s.record c = none
  record : ∀ d, t.record d = if d = c then some { a.record with owed := o } else s.record d
  generation : ∀ d, (t.circuit d).generation =
    if d = c then (s.circuit c).generation + 1 else (s.circuit d).generation
  link : ∀ m, t.link m = { s.link m with controlList := (t.link m).controlList }
  otherLink : ∀ m, m ≠ a.link → t.link m = s.link m
  control : ControlMove c (s.link a.link).isUp { } o (s.link a.link).controlList (t.link a.link).controlList
  up : (s.link a.link).isUp = true
  services : t.services =
    if a.direction = .incoming then
      s.services.map fun e => if e.number = a.service then { e with active := e.active + 1 } else e
    else s.services
  reservationTotal : t.reservationTotal = s.reservationTotal + a.quota
  hasRoom : s.reservationTotal + a.quota ≤ Config.receiveCells
  txFree : t.txFree = s.txFree
  cellsHeld : t.cellsHeld = s.cellsHeld
  linkNotices : t.linkNotices = s.linkNotices
  circuitNotices : t.circuitNotices = (s.notify c k).circuitNotices
  noticeList : t.noticeList = (s.notify c k).noticeList
  outside : s.SameOutside t
  sizes : ServiceTableLaw s → (1 ≤ a.quota ∧ a.quota ≤ 64) ∧ (1 ≤ a.threshold ∧ a.threshold ≤ a.quota)
    ∧ 1 ≤ a.depth ∧ a.depth ≤ 32

/-- A record goes to FREE (R20, R44). -/
structure State.Frees (s t : State) (c : CircuitNo) (r : Record) : Prop where
  before : s.record c = some r
  record : ∀ d, t.record d = if d = c then none else s.record d
  generation : ∀ d, (t.circuit d).generation = (s.circuit d).generation
  link : ∀ m, t.link m = { s.link m with controlList := (t.link m).controlList }
  otherLink : ∀ m, m ≠ r.link → t.link m = s.link m
  control : (t.link r.link).controlList = (s.link r.link).controlList.filter (· != c)
  services : t.services = if r.phase.live then (s.uncount r).services else s.services
  reservationTotal : t.reservationTotal = s.reservationTotal - r.quota
  txFree : t.txFree = s.txFree
  cellsHeld : t.cellsHeld = s.cellsHeld - r.rxQueue.length
  linkNotices : t.linkNotices = s.linkNotices
  circuitNotices : t.circuitNotices = (s.dropNotices c).circuitNotices
  noticeList : t.noticeList = (s.dropNotices c).noticeList
  outside : s.SameOutside t

/-- What a claim on link `l` does at most once: it allocates, it frees an offer, it moves a counter. -/
inductive Once (i : Instr) (l : LinkNo) (s : State) : State → Prop
  | allocates {u t : State} {c : CircuitNo} {a : Allocation} {o : Owed} {k : Option CircuitNotice}
    (on : a.link = l) (line : lineOf i ≠ none → a.direction = .incoming) (first : Moves l s u)
    (unique : PeerLaw s → ∀ p, a.peer = some p → ∀ d q, u.record d = some q →
      q.holdsPeer l p.circuit = false)
    (h : u.Allocates t c a o k) : Once i l s t
  | frees {t : State} {c : CircuitNo} {r : Record} (on : r.link = l) (offered : r.phase = .offered)
    (h : s.Frees t c r) : Once i l s t
  | accepts {t : State} {c : CircuitNo} {r : Record} {payload : List Byte} {k : Option CircuitNotice}
    (on : r.link = l) (carries : r.phase.carriesData = true) (credit : r.received ≠ r.advertised)
    (h : s.Rewrites t c r (r.acceptData r.expected payload) k) : Once i l s t
  | offers {t : State} {c : CircuitNo} {r : Record} {n : Nat} {limit : Word} (on : r.link = l)
    (carries : r.phase.carriesData = true) (h : s.Rewrites t c r (r.offerLimit n limit) none) : Once i l s t
  | delivers {t : State} {c : CircuitNo} {r : Record} {item : RxItem} {rest : List RxItem} (on : r.link = l)
    (receive : i = .receive) (phase : r.phase ≠ .calling ∧ r.phase ≠ .offered)
    (head : r.rxQueue = item :: rest) (h : s.Rewrites t c r { r with rxQueue := rest } none) : Once i l s t

/-- What an event does on link `l` before the end of its claim. -/
inductive Claim (i : Instr) (l : LinkNo) (s : State) : State → Prop
  | moves {t : State} (h : Moves l s t) : Claim i l s t
  | once {u v t : State} (before : Moves l s u) (once : Once i l u v) (after : Moves l v t) : Claim i l s t

/-! ### The Service Table by a command (R28, R29, R31) -/

/-- The Service Table after SERVICE-REGISTER, SERVICE-AMEND or a GENTLE removal. -/
inductive ServiceChange (s : State) : List Service → Prop
  | adds {e : Service} (range : e.inRange) (fresh : (s.service e.number).isSome = false)
    (room : s.services.length < Config.serviceCapacity) (active : e.active = s.countFor e.number) :
    ServiceChange s (insertService e s.services)
  | amends {number : Byte} {e : Service} (range : e.inRange) :
    ServiceChange s (s.onService number fun x =>
      { e with number := x.number, active := x.active }).services
  | removes (number : Byte) : ServiceChange s (s.removeService number).services

/-! ### The forms of an event -/

/-- Moves on links one after another. -/
abbrev MovesAny : State → State → Prop := ReflTransGen fun s t => ∃ l, Move l s t

/-- What an event makes of a part. `w` is the window that it leaves; a line or a link's timer leaves it alone,
and acts on its own link. -/
inductive Event (i : Instr) (s : State) : State → Prop
  | skip : Event i s s
  | window (w : Outside) (running : s.held = false) (host : lineOf i = none) : Event i s (s.withOutside w)
  | quiet {t : State} (l : LinkNo) (w : Outside) (running : s.held = false)
    (line : ∀ m, lineOf i = some m → m = l ∧ w = s.outside) (tweaks : ReflTransGen (Tweak l) s t) :
    Event i s (t.withOutside w)
  | claim {u v : State} (l : LinkNo) (b : State) (w : Outside) (running : s.held = false)
    (line : ∀ m, lineOf i = some m → m = l ∧ w = s.outside) (claim : Claim i l s u)
    (tweaks : ReflTransGen (Tweak l) (State.finishClaim b u l) v) : Event i s (v.withOutside w)
  | release {t : State} {c : CircuitNo} {r : Record} (w : Outside) (running : s.held = false)
    (command : i = .circuitRelease) (ended : r.phase.live = false) (h : s.Frees t c r) :
    Event i s (t.withOutside w)
  | services {es : List Service} (w : Outside) (running : s.held = false) (host : lineOf i = none)
    (h : ServiceChange s es) : Event i s ({ s with services := es }.withOutside w)
  | withdraws {t : State} (number : Byte) (b : State) (w : Outside) (running : s.held = false)
    (host : lineOf i = none) (moves : MovesAny s t) :
    Event i s ((State.afterReturns b (t.removeService number)).boundaries.withOutside w)
  | clears (w : Outside) (running : s.held = false) (command : i = .clear) :
    Event i s (s.cleared.boundaries.withOutside w)
  | resets (lowNs : Nat) (rxd : Vector LineLevel 4) (pin : i = .resetnPulse lowNs rxd) :
    Event i s (s.resetn rxd)
  | released (pin : i = .resetnRelease) (byPin : s.powering = false) : Event i s { s with held := false }
  | rises (rxd : Vector LineLevel 4) (power : i = .powerOn .supplyRises rxd) : Event i s (s.enterPowerHold rxd)
  | powers (low : Bool) (rxd : Vector LineLevel 4) (power : i = .powerOn (.holdEnds low) rxd) :
    Event i s (s.endPowerHold low rxd)

end Sys2Proof.Machine
end

section
/-! PROOFS. The shared operations as moves (chapters 1 to 6): each operation of the model on circuits and links is
one of the moves of a claim, or a row of them. -/

namespace Sys2Proof.Machine

set_option Elab.async false

open Relation (ReflTransGen)

/-! ### Loops over the circuits -/

/-- What a loop over the circuits makes of a value held per circuit, where the step of a circuit touches the value
of that circuit alone. -/
theorem State.forCircuits_pointwise {α : Type} (read : CircuitNo → State → α) (g : CircuitNo → α → α)
    (f : CircuitNo → State → State)
    (h : ∀ c t d, read d (f c t) = if d = c then g c (read c t) else read d t) (s : State) (d : CircuitNo) :
    read d (s.forCircuits f) = g d (read d s) := by
  have fold : ∀ (cs : List CircuitNo) (t : State), cs.Nodup →
      read d (cs.foldl (fun t c => f c t) t) = if d ∈ cs then g d (read d t) else read d t := by
    intro cs
    induction cs with
    | nil => intro t _; rfl
    | cons c cs ih =>
      intro t nodup
      obtain ⟨fresh, nodup⟩ := List.nodup_cons.1 nodup
      rw [List.foldl_cons, ih _ nodup, h]
      by_cases e : d = c
      · subst e; simp [fresh]
      · simp [e]
  rw [State.forCircuits, allCircuits, fold _ _ (List.nodup_finRange 64), if_pos (List.mem_finRange d)]

/-- A loop over the circuits whose steps are rows of moves is one. -/
theorem State.forCircuits_moves {R : State → State → Prop} {f : CircuitNo → State → State}
    (h : ∀ c t, ReflTransGen R t (f c t)) (s : State) : ReflTransGen R s (s.forCircuits f) :=
  State.forCircuits_invariant (ReflTransGen R s) f (fun c t ht => ht.trans (h c t)) s .refl

/-! ### Owing and ending -/

variable {s t u : State} {l : LinkNo} {c : CircuitNo} {r : Record}

theorem State.runs_of_live (before : s.record c = some r) (live : r.phase.live = true) : s.Runs r.link :=
  .inr ⟨c, r, before, rfl, live⟩

theorem Phase.live_of_counted {p : Phase} (h : p.counted = true) : p.live = true := by
  cases p <;> simp_all [Phase.counted, Phase.live]

theorem Phase.live_of_carriesData {p : Phase} (h : p.carriesData = true) : p.live = true := by
  cases p <;> simp_all [Phase.carriesData, Phase.live]

theorem Phase.live_of_sendsData {p : Phase} (h : p.sendsData = true) : p.live = true := by
  cases p <;> simp_all [Phase.sendsData, Phase.live]

theorem Phase.counted_of_sendsData {p : Phase} (h : p.sendsData = true) : p.counted = true := by
  cases p <;> simp_all [Phase.sendsData, Phase.counted]

/-- A kind is owed that the record may owe as it stands. -/
theorem Move.owe {k : ControlKind} (before : s.record c = some r) (may : r.mayOwe k) (runs : s.Runs r.link) :
    Move r.link s (s.owe c k) :=
  .record rfl (.owes may) id (fun _ => .inr runs) (.owe before k)

/-- An ending with nothing owed but what was owed. -/
theorem Move.ends {cause : EndCause} {detail : Option Byte} (before : s.record c = some r)
    (live : r.phase.live = true) (fits : r.EndFits cause r.owed.afterEnd) :
    Move r.link s (s.endCircuit c cause detail) :=
  .record rfl (.ends live fits) (fun counted => by cases counted)
    (fun _ => .inr (State.runs_of_live before live)) (.endCircuit before live cause detail)

/-- CLOSE or CLOSED is owed, and the circuit ends (R54, R62, R64). -/
theorem State.Rewrites.oweEnd (before : s.record c = some r) (live : r.phase.live = true) (k : ControlKind)
    (cause : EndCause) (detail : Option Byte) :
    s.Rewrites ((s.owe c k).endCircuit c cause detail) c r
      { r.atEnd cause detail with owed := (r.owed.put k true).afterEnd } (some .ended) :=
  (owe before k).trans (endCircuit (owe before k).after live cause detail) (.inl rfl)
    (fun empty => absurd empty (by simp))

theorem Move.oweEnd {k : ControlKind} {cause : EndCause} {detail : Option Byte}
    (before : s.record c = some r) (live : r.phase.live = true)
    (fits : r.EndFits cause (r.owed.put k true).afterEnd) :
    Move r.link s ((s.owe c k).endCircuit c cause detail) :=
  .record rfl (.ends live fits) (fun counted => by cases counted)
    (fun _ => .inr (State.runs_of_live before live)) (.oweEnd before live k cause detail)

/-- After an abort, a withdrawal or a supersede a CLOSE may be owed (R61). -/
theorem Record.endFits_close {cause : EndCause} (counted : r.phase.counted = true)
    (listed : (cause == .localAbort || cause == .withdrawn || cause == .superseded) = true) :
    r.EndFits cause (r.owed.put .close true).afterEnd := by
  intro kinds presence
  have peer : r.peer.isSome = true := by
    unfold Record.presence at presence
    cases h : r.phase <;> simp_all [Phase.counted]
  simp [Owed.put, Owed.afterEnd, peer, listed]

theorem Move.supersede (before : s.record c = some r) (counted : r.phase.counted = true) :
    Move r.link s (s.supersede c) :=
  .oweEnd before (Phase.live_of_counted counted) (Record.endFits_close counted rfl)

theorem Record.counted_of_holdsPeer {p : Byte} (h : r.holdsPeer l p = true) :
    r.link = l ∧ r.phase.counted = true ∧ ∃ q, r.peer = some q ∧ q.circuit = p := by
  unfold Record.holdsPeer at h
  cases peer : r.peer <;> simp_all

/-! ### Taking a peer (R50 to R52) -/

theorem RecordStep.supersede (before : s.record c = some r) (counted : r.phase.counted = true) :
    RecordStep r.link s (s.supersede c) := by
  have live := Phase.live_of_counted counted
  exact ⟨c, r, _, _, rfl, .ends live (Record.endFits_close counted rfl),
    fun _ => .inr (State.runs_of_live before live), .oweEnd before live .close .superseded none⟩

theorem State.supersedeOthers_steps (s : State) (l : LinkNo) (c : CircuitNo) (p : Byte) :
    ReflTransGen (RecordStep l) s (s.supersedeOthers l c p) := by
  refine State.forCircuits_moves (fun d t => ?_) s
  split
  · exact .refl
  · rename_i q before
    split
    · rename_i holds
      obtain ⟨rfl, counted, -⟩ := Record.counted_of_holdsPeer (Bool.and_eq_true _ _ ▸ holds).2
      exact .single (.supersede before counted)
    · exact .refl

theorem State.record_supersedeOthers (s : State) (l : LinkNo) (c d : CircuitNo) (p : Byte) :
    (s.supersedeOthers l c p).record d =
      (s.record d).map fun q => q.supersededIf (decide (d ≠ c) && q.holdsPeer l p) := by
  refine State.forCircuits_pointwise (fun d t => t.record d)
    (fun d q => q.map fun q => q.supersededIf (decide (d ≠ c) && q.holdsPeer l p)) _ (fun e t d => ?_) s d
  cases before : t.record e with
  | none => by_cases h : d = e <;> simp [h, before]
  | some q =>
    dsimp only [Option.map_some]
    generalize (decide (e ≠ c) && q.holdsPeer l p) = holds
    cases holds with
    | true => simp [State.record_supersede, before, Record.supersededIf]
    | false => by_cases h : d = e <;> simp [h, before, Record.supersededIf]

theorem State.openCall_eq (before : s.record c = some r) (peer : Peer) (limit : Word) :
    s.openCall c peer limit =
      ((s.putLessOwed c (r.opened s.settings.askMs peer limit)).supersedeOthers r.link c
        peer.circuit).postCircuit c .opened := by
  unfold State.openCall
  simp only [before]
  rfl

theorem State.record_openCall (before : s.record c = some r) (peer : Peer) (limit : Word) (d : CircuitNo) :
    (s.openCall c peer limit).record d =
      if d = c then some (r.opened s.settings.askMs peer limit)
      else (s.record d).map fun q => q.supersededIf (q.holdsPeer r.link peer.circuit) := by
  rw [State.openCall_eq before]
  simp only [State.postCircuit_frame, State.record_supersedeOthers, State.record_putLessOwed]
  by_cases h : d = c <;> simp [h, Record.supersededIf]

theorem State.openCall_steps (before : s.record c = some r) (calling : r.phase = .calling) (peer : Peer)
    (limit : Word) (fits : r.peer = none ∨ r.peer = some peer) :
    ReflTransGen (RecordStep r.link) s
      ((s.putLessOwed c (r.opened s.settings.askMs peer limit)).supersedeOthers r.link c peer.circuit) := by
  have live : r.phase.live = true := by simp [calling, Phase.live]
  have first : RecordStep r.link s (s.putLessOwed c (r.opened s.settings.askMs peer limit)) := by
    refine ⟨c, r, r.opened s.settings.askMs peer limit, none, rfl, .opens calling fits,
      fun _ => .inr (State.runs_of_live before live), .putLessOwed before rfl Owed.isEmpty_of_put_false ?_⟩
    simp [calling, Record.opened, Record.settleAsk, Phase.live]
  exact .head first (State.supersedeOthers_steps _ _ _ _)

theorem Move.openCall {peer : Peer} {limit : Word} (before : s.record c = some r)
    (calling : r.phase = .calling) (fits : r.peer = none ∨ r.peer = some peer) :
    Move r.link s (s.openCall c peer limit) := by
  have records := State.record_openCall before peer limit
  have steps := State.openCall_steps before calling peer limit fits
  have opened := State.openCall_eq before peer limit
  generalize (s.putLessOwed c (r.opened s.settings.askMs peer limit)).supersedeOthers r.link c
    peer.circuit = u at steps opened
  rw [opened] at records ⊢
  exact .opens (r' := r.opened s.settings.askMs peer limit) rfl before ⟨rfl, rfl⟩ steps
    (by simpa using records)

/-! ### Closes (R56, R57, R66) -/

theorem State.Rewrites.beginClosing (before : s.record c = some r) (live : r.phase.live = true) :
    s.Rewrites (s.beginClosing c) c r
      { r with phase := .closing .normal, retryCount := 0, owed := r.owed.put .close true } none := by
  unfold State.beginClosing
  rw [before]
  have closing : s.Rewrites _ c r { r with phase := .closing .normal, retryCount := 0 } none :=
    .setRecord before (live := live.symm)
  exact closing.trans (.owe closing.after .close) (.inl rfl) fun empty => .inr ⟨empty, rfl⟩

theorem Move.beginClosing (before : s.record c = some r) (phase : r.phase = .opened) (empty : r.txQueue = []) :
    Move r.link s (s.beginClosing c) := by
  have live : r.phase.live = true := by simp [phase, Phase.live]
  exact .record rfl (.closes phase empty) (fun _ => by simp [phase, Phase.counted])
    (fun _ => .inr (State.runs_of_live before live)) (.beginClosing before live)

theorem State.Rewrites.forceClose_sends (before : s.record c = some r) (sends : r.phase.sendsData = true)
    (x : CloseReason) :
    s.Rewrites (s.forceClose c x) c r
      { r with
        phase := .closing x, retryCount := 0, txQueue := [], askTimer := none
        owed := r.owed.put .close true } none := by
  have live := Phase.live_of_sendsData sends
  have closing : s.Rewrites
      { s.setRecord c (some { r with phase := .closing x, retryCount := 0, txQueue := [], askTimer := none })
        with txFree := s.txFree + r.txQueue.length, cellsHeld := s.cellsHeld } c r
      { r with phase := .closing x, retryCount := 0, txQueue := [], askTimer := none } none :=
    .write before (live := live.symm)
  have owing := closing.trans (.owe closing.after .close) (.inl rfl) (fun empty => .inr ⟨empty, rfl⟩)
  unfold State.forceClose
  cases phase : r.phase <;> simp only [phase, Phase.sendsData, Bool.false_eq_true] at sends
  · simp only [before, phase]; exact owing
  · simp only [before, phase]; exact owing

/-- A forced close is one move, or nothing where the circuit is closing by force already (R66). -/
theorem Move.forceClose (before : s.record c = some r)
    (phase : r.phase.sendsData = true ∨ r.phase = .closing .normal) (x : CloseReason) :
    Move r.link s (s.forceClose c x) := by
  rcases phase with sends | closing
  · have live := Phase.live_of_sendsData sends
    exact .record rfl (.breaks sends) (fun _ => Phase.counted_of_sendsData sends)
      (fun _ => .inr (State.runs_of_live before live)) (.forceClose_sends before sends x)
  · have live : r.phase.live = true := by simp [closing, Phase.live]
    unfold State.forceClose
    simp only [before, closing]
    exact .record rfl (.worsens closing) (fun _ => by simp [closing, Phase.counted])
      (fun _ => .inr (State.runs_of_live before live))
      (.setRecord before (live := live.symm))

/-! ### Answers and offers (R34, R44, R134) -/

/-- The links after a record goes to FREE: the circuit is off its link's control list (R20, R135). -/
theorem State.link_freeCircuit (before : s.record c = some r) (m : LinkNo) :
    (s.freeCircuit c).link m =
      if m = r.link then
        { s.link m with controlList := (s.link m).controlList.filter (· != c) }
      else s.link m := by
  unfold State.freeCircuit
  rw [before]
  change (State.leaveControl _ r.link c).link m = _
  simp only [State.leaveControl, State.link_onLink, State.setRecord_frame]
  split <;> simp_all

/-- A record goes to FREE, its service having been told where it was counted: what R20 and R44 share. -/
theorem State.Frees.freeCircuit {v : State} {es : List Service} (before : s.record c = some r)
    (told : v = { s with services := es })
    (services : es = if r.phase.live then (s.uncount r).services else s.services) :
    s.Frees (v.freeCircuit c) c r := by
  have found : v.record c = some r := by rw [told]; exact before
  have same : v.freeCircuit c = { (v.setRecord c none).leaveControl r.link c with
      circuitNotices := (v.dropNotices c).circuitNotices, noticeList := (v.dropNotices c).noticeList
      cellsHeld := v.cellsHeld - r.rxQueue.length
      reservationTotal := v.reservationTotal - r.quota } := by
    unfold State.freeCircuit
    rw [found]
    rfl
  have links := State.link_freeCircuit found
  constructor
  case before => exact before
  case record => intro d; rw [State.record_freeCircuit, told]; rfl
  case generation => intro d; rw [State.generation_freeCircuit, told]; rfl
  case link => intro m; rw [links, told]; split <;> rfl
  case otherLink => intro m hm; rw [links, if_neg hm, told]; rfl
  case control => rw [links, if_pos rfl, told]; rfl
  case services => rw [← services, same]; rw [told]; rfl
  case reservationTotal => rw [same, told]
  case txFree => rw [same, told]; rfl
  case cellsHeld => rw [same, told]
  case linkNotices => rw [same, told]; rfl
  case circuitNotices => rw [same, told]; rfl
  case noticeList => rw [same, told]; rfl
  case outside => rw [same, told]; exact ⟨rfl, rfl, rfl⟩

theorem State.uncount_eq (s : State) (r : Record) :
    s.uncount r = { s with services := (s.uncount r).services } := by
  unfold State.uncount
  split <;> rfl

/-- The refusal of an offer: an answer item, and then the record is FREE (R44). -/
theorem Once.refuseOffer {i : Instr} (before : s.record c = some r) (offered : r.phase = .offered)
    (reason : Byte) :
    ∃ u, Move r.link s u ∧ Once i r.link u (s.refuseOffer c reason) := by
  have live : r.phase.live = true := by simp [offered, Phase.live]
  have refused : ∃ item, s.refuseOffer c reason = ((s.answer r.link item).uncount r).freeCircuit c := by
    unfold State.refuseOffer
    rw [before]
    exact ⟨_, rfl⟩
  obtain ⟨item, refused⟩ := refused
  rw [refused]
  have answered : (s.answer r.link item).record c = some r := by simpa using before
  have frees := State.Frees.freeCircuit answered (State.uncount_eq _ r) (by simp [live])
  exact ⟨_, .answer item (State.runs_of_live before live), .frees rfl offered frees⟩

end Sys2Proof.Machine
end

section
/-! PROOFS. Frames, timers and link ends as claims (chapters 2 to 6): what the Link Controller makes of a frame is
a row of moves with at most one allocation, release or movement of a counter. -/

namespace Sys2Proof.Machine

set_option Elab.async false

open Relation (ReflTransGen)

variable {s t u : State} {l : LinkNo} {c : CircuitNo} {r : Record} {i : Instr}

/-! ### Claims -/

theorem Claim.refl : Claim i l s s := .moves .refl

theorem Claim.move (h : Move l s t) : Claim i l s t := .moves (.single h)

theorem Claim.of_once (h : Once i l s t) : Claim i l s t := .once .refl h .refl

/-- Moves first, and then a claim. -/
theorem Claim.after (first : Moves l s t) (h : Claim i l t u) : Claim i l s u := by
  cases h with
  | moves h => exact .moves (first.trans h)
  | once before once after => exact .once (first.trans before) once after

/-- A claim, and then a move. -/
theorem Claim.then (h : Claim i l s t) (last : Move l t u) : Claim i l s u := by
  cases h with
  | moves h => exact .moves (h.tail last)
  | once before once after => exact .once before once (after.tail last)

/-! ### The link under a move -/

theorem State.isUp_of_state {x : Link} (h : x.state = .up) : x.isUp = true := by simp [Link.isUp, h]

/-! ### Answers to stray frames (R69 to R71) -/

theorem Claim.answerStray (up : (s.link l).isUp = true) (hdr : Header) : Claim i l s (s.answerStray l hdr) := by
  unfold State.answerStray
  split
  · exact .refl
  · exact .move (.answer _ (.inl up))

theorem Claim.answerClosed (up : (s.link l).isUp = true) (hdr : Header) :
    Claim i l s (s.answerClosed l hdr) := by
  unfold State.answerClosed
  split
  · exact .refl
  · exact .move (.answer _ (.inl up))

/-! ### Matched records (R133) -/

theorem State.matched_spec {hdr : Header} (h : s.matched l hdr = some (c, r)) :
    s.record c = some r ∧ r.link = l
      ∧ (r.peer = none ∨ r.peer = some { circuit := hdr.src, generation := hdr.srcGen }) := by
  refine ⟨State.record_of_matched h, ?_⟩
  unfold State.matched at h
  split at h
  · cases h
  · split at h
    · cases h
    · split at h
      · rename_i cond
        cases h
        exact ⟨cond.1, cond.2.2⟩
      · cases h

/-! ### Credit frames (chapter 4) -/

theorem Record.offerLimit_frame (n : Nat) (r : Record) (limit : Word) :
    (r.offerLimit n limit).identity = r.identity ∧ (r.offerLimit n limit).owed = r.owed
      ∧ (r.offerLimit n limit).phase = r.phase ∧ (r.offerLimit n limit).txQueue = r.txQueue
      ∧ (r.offerLimit n limit).rxQueue = r.rxQueue := by
  unfold Record.offerLimit
  split <;> exact ⟨rfl, rfl, rfl, rfl, rfl⟩

theorem Once.offerLimit (before : s.record c = some r) (carries : r.phase.carriesData = true) (n : Nat)
    (limit : Word) : Once i r.link s (s.setRecord c (some (r.offerLimit n limit))) := by
  obtain ⟨identity, owed, phase, tx, rx⟩ := Record.offerLimit_frame n r limit
  exact .offers rfl carries (.setRecord before identity owed (by rw [phase]) (by rw [tx]) (by rw [rx]))

theorem Claim.grantOn (before : s.record c = some r) (carries : r.phase.carriesData = true) (limit : Word) :
    Claim i r.link s (s.grantOn c limit) := by
  unfold State.grantOn
  rw [before]
  exact .of_once (.offerLimit before carries _ limit)

theorem Claim.dataOn (before : s.record c = some r) (carries : r.phase.carriesData = true) (sequence : Byte)
    (payload : List Byte) : Claim i r.link s (s.dataOn c sequence payload) := by
  unfold State.dataOn
  simp only [before]
  split
  · exact .refl
  · rename_i open_
    have closes : r.phase.sendsData = true ∨ r.phase = .closing .normal := by
      cases phase : r.phase with
      | closing x => cases x <;> simp_all
      | _ => simp_all [Phase.carriesData, Phase.sendsData]
    split
    · exact .move (.forceClose before closes .violation)
    · rename_i credit
      split
      · exact .move (.forceClose before closes .loss)
      · rename_i inOrder
        obtain rfl : sequence = r.expected := not_not.1 inOrder
        have queued : s.Rewrites
            { s.setRecord c (some (r.acceptData r.expected payload)) with
              txFree := s.txFree, cellsHeld := s.cellsHeld + 1 } c r (r.acceptData r.expected payload) none :=
          .write before (rx := by simp [Record.acceptData]; omega)
        unfold State.acceptData
        split
        · exact .of_once (.accepts rfl carries credit (queued.post .data))
        · exact .of_once (.accepts rfl carries credit queued)

/-- The opened record of a call carries data on the same link (R51). -/
theorem State.record_openCall_self (before : s.record c = some r) (peer : Peer) (limit : Word) :
    (s.openCall c peer limit).record c = some (r.opened s.settings.askMs peer limit) := by
  simp [State.record_openCall before]

theorem Claim.takeCredit {hdr : Header} {handle : CircuitNo → State → State} (up : (s.link l).isUp = true)
    (handles : ∀ (t : State) (d : CircuitNo) (q : Record), t.record d = some q →
      q.phase.carriesData = true → Claim i q.link t (handle d t)) :
    Claim i l s (s.takeCredit l hdr handle) := by
  unfold State.takeCredit
  split
  · exact .answerStray up hdr
  · rename_i c r matched
    obtain ⟨before, rfl, fits⟩ := State.matched_spec matched
    split
    · rename_i calling
      split
      · exact .refl
      · have opens : Move r.link s (s.openCall c { circuit := hdr.src, generation := hdr.srcGen } 0) :=
          .openCall before calling fits
        exact .after (.single opens) (handles _ c (r.opened s.settings.askMs _ 0)
          (State.record_openCall_self before _ _) rfl)
    · rename_i phase; exact handles s c r before (by simp [phase, Phase.carriesData])
    · rename_i phase; exact handles s c r before (by simp [phase, Phase.carriesData])
    · rename_i phase; exact handles s c r before (by simp [phase, Phase.carriesData])
    · exact .answerStray up hdr
    · exact .answerStray up hdr

theorem Claim.oweGrant (before : s.record c = some r) (carries : r.phase.carriesData = true) :
    Claim i r.link s (s.owe c .grant) :=
  .move (.owe before carries (State.runs_of_live before (Phase.live_of_carriesData carries)))

/-! ### Calls and closes (chapter 3) -/

/-- What an ending without CLOSE or CLOSED owed leaves fits its form (R14). -/
theorem Record.endFits_of_nothing {cause : EndCause} {o : Owed}
    (nothing : r.owedKinds = true → r.presence = true → o.isEmpty = true) : r.EndFits cause o := by
  intro kinds presence
  have empty := nothing kinds presence
  simp [Owed.isEmpty] at empty
  simp [empty]

theorem Record.endFits_calling {cause : EndCause} (calling : r.phase = .calling) :
    r.EndFits cause r.owed.afterEnd :=
  Record.endFits_of_nothing fun kinds _ => by
    simp [Record.owedKinds, calling] at kinds
    simp [Owed.afterEnd, Owed.isEmpty, kinds]

theorem Claim.takeAccept {hdr : Header} {quota : Byte} (up : (s.link l).isUp = true) :
    Claim i l s (s.takeAccept l hdr quota) := by
  unfold State.takeAccept
  split
  · exact .answerStray up hdr
  · rename_i c r matched
    obtain ⟨before, rfl, fits⟩ := State.matched_spec matched
    have offered (carries : r.phase.carriesData = true) : Claim i r.link s
        (if r.direction = .outgoing then
          s.setRecord c (some (r.offerLimit s.settings.askMs (quota.setWidth 16)))
        else s.answerStray r.link hdr) := by
      split
      · exact .of_once (.offerLimit before carries _ _)
      · exact .answerStray up hdr
    split
    · rename_i calling
      split
      · exact .refl
      · exact .move (.openCall before calling fits)
    · rename_i phase; exact offered (by simp [phase, Phase.carriesData])
    · rename_i phase; exact offered (by simp [phase, Phase.carriesData])
    · rename_i phase; exact offered (by simp [phase, Phase.carriesData])
    · exact .answerStray up hdr
    · exact .answerStray up hdr

theorem Claim.takeRefuse {hdr : Header} {reason : Byte} : Claim i l s (s.takeRefuse l hdr reason) := by
  unfold State.takeRefuse
  split
  · exact .refl
  · rename_i c r matched
    obtain ⟨before, rfl, -⟩ := State.matched_spec matched
    split
    · rename_i calling
      exact .move (.ends before (by simp [calling, Phase.live]) (Record.endFits_calling calling))
    · exact .refl

/-- A CLOSING circuit owes no CLOSE any more, and ends (R59). -/
theorem State.Rewrites.disownEnd (before : s.record c = some r) (live : r.phase.live = true)
    (cause : EndCause) :
    s.Rewrites ((s.disown c .close).endCircuit c cause none) c r
      { r.atEnd cause none with owed := (r.owed.put .close false).afterEnd } (some .ended) := by
  refine (disown before .close).trans (endCircuit (disown before .close).after live cause none) (.inl rfl)
    fun empty => .inl ?_
  have empty : (r.owed.put .close false).isEmpty = true := empty
  simp [Owed.put, Owed.isEmpty] at empty
  simp [Owed.put, Owed.afterEnd, Owed.isEmpty, empty]

theorem Claim.takeClosed {hdr : Header} : Claim i l s (s.takeClosed l hdr) := by
  unfold State.takeClosed
  split
  · exact .refl
  · rename_i c r matched
    obtain ⟨before, rfl, -⟩ := State.matched_spec matched
    split
    · rename_i own closing
      have live : r.phase.live = true := by simp [closing, Phase.live]
      have fits : r.EndFits own.endCause (r.owed.put .close false).afterEnd :=
        Record.endFits_of_nothing fun kinds _ => by
          simp [Record.owedKinds, closing] at kinds
          simp [Owed.put, Owed.afterEnd, Owed.isEmpty, kinds]
      exact .move (.record rfl (.ends live fits) (fun counted => by cases counted)
        (fun _ => .inr (State.runs_of_live before live)) (.disownEnd before live _))
    · exact .refl

/-- A CLOSING circuit owes CLOSED in the place of CLOSE, and ends (R60, R62). -/
theorem State.Rewrites.answerEnd (before : s.record c = some r) (live : r.phase.live = true)
    (cause : EndCause) :
    s.Rewrites (((s.owe c .closed).disown c .close).endCircuit c cause none) c r
      { r.atEnd cause none with owed := ((r.owed.put .closed true).put .close false).afterEnd }
      (some .ended) :=
  (owe before .closed).trans (disownEnd (owe before .closed).after live cause) (.inl rfl)
    (fun empty => absurd empty (by simp))

theorem Claim.takeClose {hdr : Header} {reason : Byte} (up : (s.link l).isUp = true) :
    Claim i l s (s.takeClose l hdr reason) := by
  unfold State.takeClose
  split
  · exact .answerClosed up hdr
  · rename_i c r matched
    obtain ⟨before, rfl, -⟩ := State.matched_spec matched
    have answered (sends : r.phase.sendsData = true) : Claim i r.link s
        ((s.owe c .closed).endCircuit c .peerClose (some reason)) := by
      refine .move (.oweEnd before (Phase.live_of_sendsData sends) fun kinds presence => ?_)
      cases phase : r.phase <;>
        simp_all [Record.owedKinds, Record.presence, Owed.put, Owed.afterEnd, Phase.sendsData]
    split
    · rename_i calling
      split
      · exact .refl
      · have ends : Move r.link s (s.endCircuit c .peerClose (some reason)) :=
          .ends before (by simp [calling, Phase.live]) (Record.endFits_calling calling)
        refine .after (.single ends) (.answerClosed ?_ hdr)
        rw [State.Rewrites.isUp (.endCircuit before (by simp [calling, Phase.live]) _ _)]
        exact up
    · exact .answerClosed up hdr
    · rename_i phase; exact answered (by simp [phase, Phase.sendsData])
    · rename_i phase; exact answered (by simp [phase, Phase.sendsData])
    · rename_i own closing
      have live : r.phase.live = true := by simp [closing, Phase.live]
      have fits : r.EndFits own.endCause ((r.owed.put .closed true).put .close false).afterEnd := by
        intro kinds presence
        simp [Record.presence, closing] at presence
        simp [Owed.put, Owed.afterEnd, presence]
      exact .move (.record rfl (.ends live fits) (fun counted => by cases counted)
        (fun _ => .inr (State.runs_of_live before live)) (.answerEnd before live _))
    · rename_i ended
      split
      · rename_i peer
        exact .move (.owe before ⟨by simp [ended, Phase.live], peer⟩ (.inl up))
      · exact .answerClosed up hdr

/-! ### Admission (R34 to R40) -/

theorem Claim.repeatOpen (before : s.record c = some r) : Claim i r.link s (s.repeatOpen c) := by
  unfold State.repeatOpen
  simp only [before]
  split
  · rename_i opened
    exact .move (.owe before opened.2 (State.runs_of_live before (by simp [opened.2, Phase.live])))
  · exact .refl

/-- What the six checks of an admitted request have found (R37). -/
theorem State.judgeOpen_admitted {service : Byte} {e : Service}
    (h : s.judgeOpen l service = .admitted e c) :
    e ∈ s.services ∧ s.record c = none ∧ s.reservationTotal + e.quota ≤ Config.receiveCells := by
  refine ⟨State.mem_services_of_judgeOpen h, ?_⟩
  unfold State.judgeOpen at h
  split at h
  · cases h
  · simp only [ite_eq_iff, reduceCtorEq, and_false, false_or] at h
    obtain ⟨-, -, -, admitted⟩ := h
    split at admitted
    · cases admitted
    · rename_i d lowest
      split at admitted
      · rename_i room
        cases admitted
        exact ⟨by simpa using List.find?_some lowest, by simpa [State.hasRoom] using room⟩
      · cases admitted

/-- An allocation with the Service Table told, and with one kind owed or none. -/
theorem State.Allocates.intro {v : State} {a : Allocation} {o : Owed} {es : List Service} (fresh : a.Fresh o)
    (free : s.record c = none) (up : (s.link a.link).isUp = true)
    (told : v = { s.allocate c a with services := es })
    (services : es =
      if a.direction = .incoming then
        s.services.map fun e => if e.number = a.service then { e with active := e.active + 1 } else e
      else s.services)
    (room : s.reservationTotal + a.quota ≤ Config.receiveCells)
    (sizes : ServiceTableLaw s → (1 ≤ a.quota ∧ a.quota ≤ 64)
      ∧ (1 ≤ a.threshold ∧ a.threshold ≤ a.quota) ∧ 1 ≤ a.depth ∧ a.depth ≤ 32)
    (owing : (o = { } ∧ t = v) ∨ ∃ k, o = Owed.put { } k true ∧ t = v.owe c k) :
    s.Allocates t c a o none := by
  have records (d : CircuitNo) : v.record d = if d = c then some a.record else s.record d := by
    rw [told]; exact s.record_allocate c d a
  have generations (d : CircuitNo) : (v.circuit d).generation =
      if d = c then (s.circuit c).generation + 1 else (s.circuit d).generation := by
    rw [told]; exact s.generation_allocate c d a
  have links (m : LinkNo) : v.link m = s.link m := by rw [told]; rfl
  have before : v.record c = some a.record := by simp [records]
  rcases owing with ⟨rfl, rfl⟩ | ⟨k, rfl, rfl⟩
  · exact
      { fresh := fresh, free := free, up := up, hasRoom := room, sizes := sizes
        record := records
        generation := generations
        link := fun m => by rw [links]
        otherLink := fun m _ => links m
        control := by rw [links]; exact .stays (.inl rfl)
        services := by rw [← services, told]
        reservationTotal := by rw [told]; rfl
        txFree := by rw [told]; rfl
        cellsHeld := by rw [told]; rfl
        linkNotices := by rw [told]; rfl
        circuitNotices := by rw [told]; rfl
        noticeList := by rw [told]; rfl
        outside := by rw [told]; exact ⟨rfl, rfl, rfl⟩ }
  · have owe := State.Rewrites.owe before k
    exact
      { fresh := fresh, free := free, up := up, hasRoom := room, sizes := sizes
        record := fun d => by rw [owe.record, records]; split <;> rfl
        generation := fun d => (owe.generation d).trans (generations d)
        link := fun m => by rw [owe.link, links]
        otherLink := fun m hm => (owe.otherLink m hm).trans (links m)
        control := by
          have control := owe.control
          rw [links] at control
          exact control
        services := by rw [← services, State.owe_frame v c k |>.1, told]
        reservationTotal := by rw [owe.reservationTotal, told]; rfl
        txFree := by simp [told]
        cellsHeld := by simp [told]
        linkNotices := by rw [owe.linkNotices, told]; rfl
        circuitNotices := by rw [owe.circuitNotices, told]; rfl
        noticeList := by rw [owe.noticeList, told]; rfl
        outside := by
          refine State.SameOutside.trans ?_ owe.outside
          rw [told]
          exact ⟨rfl, rfl, rfl⟩ }

/-- A notice is posted for the circuit that has been allocated. -/
theorem State.Allocates.post {a : Allocation} {o : Owed} (h : s.Allocates t c a o none)
    (k : CircuitNotice) : s.Allocates (t.postCircuit c k) c a o (some k) :=
  { h with
    circuitNotices := by simp [State.notify, State.postCircuit, h.circuitNotices]
    noticeList := by simp [State.notify, State.postCircuit, h.circuitNotices, h.noticeList]
    outside := h.outside.trans ⟨rfl, rfl, rfl⟩ }

/-- An admitted request is one allocation of an incoming circuit for the source (R39, R40). -/
theorem State.Allocates.acceptOpen {hdr : Header} {quota : Byte} {e : Service} (up : (s.link l).isUp = true)
    (entry : e ∈ s.services) (free : s.record c = none)
    (room : s.reservationTotal + e.quota ≤ Config.receiveCells) :
    ∃ a o k, a.link = l ∧ a.direction = .incoming
      ∧ a.peer = some { circuit := hdr.src, generation := hdr.srcGen }
      ∧ s.Allocates (s.acceptOpen l hdr quota e c) c a o k := by
  have sizes : ServiceTableLaw s → (1 ≤ e.quota ∧ e.quota ≤ 64)
      ∧ (1 ≤ e.threshold ∧ e.threshold ≤ e.quota) ∧ 1 ≤ e.depth ∧ e.depth ≤ 32 := fun table => by
    obtain ⟨-, -, -, -, q1, q2, t1, t2, d1, d2⟩ := table.2.2 e entry
    exact ⟨⟨q1, q2⟩, ⟨t1, t2⟩, d1, d2⟩
  unfold State.acceptOpen
  cases mode : e.mode with
  | auto =>
    refine ⟨_, { accept := true }, some .opened, rfl, rfl, rfl, .post (.intro ?_ free up rfl rfl room sizes
      (.inr ⟨.accept, rfl, rfl⟩)) .opened⟩
    exact .auto rfl rfl rfl rfl
  | hold =>
    refine ⟨_, { }, some .offered, rfl, rfl, rfl, .post (.intro ?_ free up rfl rfl room sizes
      (.inl ⟨rfl, rfl⟩)) .offered⟩
    exact .hold rfl rfl rfl rfl

/-- A request is judged after moves that have left no holder of its peer number (R34, R36, R37). -/
theorem Claim.requestOpen {hdr : Header} {service quota : Byte} (first : Moves l s u)
    (up : (u.link l).isUp = true)
    (unique : PeerLaw s → ∀ d q, u.record d = some q → q.holdsPeer l hdr.src = false) :
    Claim i l s (u.requestOpen l hdr service quota) := by
  unfold State.requestOpen
  split
  · rename_i e c admitted
    obtain ⟨entry, free, room⟩ := State.judgeOpen_admitted admitted
    obtain ⟨a, o, k, link, direction, peer, allocates⟩ :=
      State.Allocates.acceptOpen (hdr := hdr) (quota := quota) up entry free room
    refine .of_once (.allocates link (fun _ => direction) first (fun law p hp => ?_) allocates)
    cases peer.symm.trans hp
    exact unique law
  · exact .after first (.move (.answer _ (.inl up)))

theorem Claim.takeOpen {hdr : Header} {service quota : Byte} (up : (s.link l).isUp = true) :
    Claim i l s (s.takeOpen l hdr service quota) := by
  unfold State.takeOpen
  split
  · exact .refl
  · split
    · rename_i absent
      refine .requestOpen .refl up fun _ d q before => ?_
      have := List.find?_eq_none.1 absent d (List.mem_finRange d)
      simpa [before] using this
    · rename_i c found
      have holds := List.find?_some found
      cases before : s.record c with
      | none => simp [before] at holds
      | some r =>
        simp only [before] at holds
        obtain ⟨rfl, counted, p, peer, source⟩ := Record.counted_of_holdsPeer holds
        simp only [Option.bind_some, peer]
        split
        · exact .repeatOpen before
        · refine .requestOpen (.single (.supersede before counted)) ?_ fun law d q after => ?_
          · exact ((State.Rewrites.oweEnd before (Phase.live_of_counted counted) .close .superseded none).isUp
              _).trans up
          · rw [State.record_supersede] at after
            split at after
            · rw [before] at after
              cases after
              simp [Record.holdsPeer, Record.atEnd, Phase.counted]
            · rename_i other
              refine Bool.eq_false_iff.2 fun held => other ?_
              exact law c r before p peer counted d q after (by rwa [source])

/-! ### Link ends (R127 to R130) -/

/-- The record of a circuit of an ending link (R127). -/
def Record.atLinkEnd (r : Record) (cause : EndCause) : Record :=
  if r.phase.live then { r.atEnd cause none with owed := { } } else { r with owed := { } }

/-- What a link end does to one circuit (R127). -/
def State.endOn (s : State) (l : LinkNo) (cause : EndCause) (c : CircuitNo) : State :=
  match s.record c with
  | none => s
  | some r =>
    if r.link = l then
      let u := if r.phase.live then s.endCircuit c cause none else s
      match u.record c with
      | none => u
      | some r' => u.putLessOwed c { r' with owed := { } }
    else s

theorem State.endCircuitsOf_eq (s : State) (l : LinkNo) (cause : EndCause) :
    s.endCircuitsOf l cause = s.forCircuits fun c t => t.endOn l cause c := rfl

theorem State.endOn_of_none (free : s.record c = none) (l : LinkNo) (cause : EndCause) :
    s.endOn l cause c = s := by
  simp [State.endOn, free]

theorem State.endOn_of_ne (before : s.record c = some r) (other : r.link ≠ l) (cause : EndCause) :
    s.endOn l cause c = s := by
  simp [State.endOn, before, other]

theorem State.endOn_of_ended (before : s.record c = some r) (ended : r.phase.live = false)
    (cause : EndCause) : s.endOn r.link cause c = s.putLessOwed c { r with owed := { } } := by
  simp [State.endOn, before, ended]

theorem State.endOn_of_live (before : s.record c = some r) (live : r.phase.live = true) (cause : EndCause) :
    s.endOn r.link cause c =
      (s.endCircuit c cause none).putLessOwed c { r.atEnd cause none with owed := { } } := by
  simp [State.endOn, before, live, State.record_endCircuit]

theorem State.Rewrites.endOn (before : s.record c = some r) (cause : EndCause) :
    s.Rewrites (s.endOn r.link cause c) c r (r.atLinkEnd cause)
      (if r.phase.live then some .ended else none) := by
  cases live : r.phase.live with
  | false =>
    rw [State.endOn_of_ended before live]
    simpa [Record.atLinkEnd, live] using
      putLessOwed (r' := { r with owed := { } }) before (owed := by simp [Owed.isEmpty])
  | true =>
    rw [State.endOn_of_live before live]
    have ended := endCircuit before live cause none
    have emptied : State.Rewrites _ _ c (r.atEnd cause none) { r.atEnd cause none with owed := { } } none :=
      putLessOwed ended.after (owed := by simp [Owed.isEmpty])
    simpa [Record.atLinkEnd, live] using
      ended.trans emptied (.inr rfl) (fun _ => .inl rfl)

theorem Move.endOn (before : s.record c = some r) (cause : EndCause) :
    Move r.link s (s.endOn r.link cause c) := by
  have change : r.Change (r.atLinkEnd cause) := by
    unfold Record.atLinkEnd
    split
    · rename_i live
      exact .ends live (Record.endFits_of_nothing fun _ _ => rfl)
    · rename_i ended
      exact .forgets (Bool.eq_false_iff.2 ended)
  have empty : (r.atLinkEnd cause).owed.isEmpty = true := by
    unfold Record.atLinkEnd
    split <;> rfl
  have counted : (r.atLinkEnd cause).phase.counted = true → r.phase.counted = true := by
    unfold Record.atLinkEnd
    split
    · intro h; cases h
    · exact id
  exact .record rfl change counted (fun something => by simp [empty] at something) (.endOn before cause)

theorem State.endCircuitsOf_moves (s : State) (l : LinkNo) (cause : EndCause) :
    Moves l s (s.endCircuitsOf l cause) := by
  refine State.forCircuits_moves (f := fun c t => t.endOn l cause c) (fun c t => ?_) s
  cases before : t.record c with
  | none => rw [State.endOn_of_none before]
  | some r =>
    by_cases on : r.link = l
    · subst on; exact .single (.endOn before cause)
    · rw [State.endOn_of_ne before on]

theorem State.record_endOn (s : State) (l : LinkNo) (cause : EndCause) (c d : CircuitNo) :
    (s.endOn l cause c).record d =
      if d = c then (s.record c).map fun r => if r.link = l then r.atLinkEnd cause else r
      else s.record d := by
  cases before : s.record c with
  | none =>
    rw [State.endOn_of_none before]
    split <;> simp_all
  | some r =>
    by_cases on : r.link = l
    · subst on
      rw [(State.Rewrites.endOn before cause).record]
      simp
    · rw [State.endOn_of_ne before on]
      split <;> simp_all

theorem State.record_endCircuitsOf (s : State) (l : LinkNo) (cause : EndCause) (d : CircuitNo) :
    (s.endCircuitsOf l cause).record d =
      (s.record d).map fun r => if r.link = l then r.atLinkEnd cause else r := by
  rw [State.endCircuitsOf_eq]
  exact State.forCircuits_pointwise (fun d t => t.record d)
    (fun _ x => x.map fun (r : Record) => if r.link = l then r.atLinkEnd cause else r)
    (fun c t => t.endOn l cause c) (fun c t d => t.record_endOn l cause c d) s d

/-- After its endings the circuits of a link have ended and owe nothing (R127). -/
theorem State.settled_endCircuitsOf (s : State) (l : LinkNo) (cause : EndCause) :
    (s.endCircuitsOf l cause).Settled l := by
  intro c q after on
  rw [State.record_endCircuitsOf] at after
  obtain ⟨r, -, rfl⟩ := Option.map_eq_some_iff.1 after
  split at on
  · rename_i h
    rw [if_pos h]
    unfold Record.atLinkEnd
    split
    · exact ⟨rfl, rfl⟩
    · rename_i ended
      exact ⟨Bool.eq_false_iff.2 ended, rfl⟩
  · rename_i h; exact absurd on h

theorem State.isUp_forCircuits {f : CircuitNo → State → State} (l : LinkNo)
    (h : ∀ c t, ((f c t).link l).isUp = (t.link l).isUp) (s : State) :
    ((s.forCircuits f).link l).isUp = (s.link l).isUp :=
  State.forCircuits_keeps (fun t => (t.link l).isUp) f h s

theorem State.isUp_endCircuitsOf (s : State) (l : LinkNo) (cause : EndCause) :
    ((s.endCircuitsOf l cause).link l).isUp = (s.link l).isUp := by
  refine State.isUp_forCircuits l (f := fun c t => t.endOn l cause c) (fun c t => ?_) s
  cases before : t.record c with
  | none => rw [State.endOn_of_none before]
  | some r =>
    by_cases on : r.link = l
    · subst on; exact (State.Rewrites.endOn before cause).isUp _
    · rw [State.endOn_of_ne before on]

theorem Moves.loseLink {cause : DownCause} {epoch : Word} (up : (s.link l).isUp = true) :
    Moves l s (s.loseLink l cause epoch) := by
  refine (State.endCircuitsOf_moves s l cause.endCause).tail ?_
  exact .loses cause _ epoch (by rw [State.isUp_endCircuitsOf]; exact up) (State.settled_endCircuitsOf s l _)

theorem Moves.stopUpLink (up : (s.link l).isUp = true) :
    Moves l s ((s.endLink l .linkStopped).stopLink l) := by
  refine (State.endCircuitsOf_moves s l DownCause.linkStopped.endCause).tail ?_
  exact .stops .linkStopped (by rw [State.isUp_endCircuitsOf]; exact up) (State.settled_endCircuitsOf s l _)

/-! ### The Link Controller (R123 to R132) -/

theorem Move.restartDead (up : (s.link l).isUp = true) : Move l s (s.restartDead l) :=
  .work (.hears _ up)

theorem State.isUp_restartDead (s : State) (l : LinkNo) :
    ((s.restartDead l).link l).isUp = (s.link l).isUp := by
  simp [State.restartDead, Link.isUp]

theorem Claim.seekingHello {epoch seen : Word} (seeking : (s.link l).state = .seeking) :
    Claim i l s (s.seekingHello l epoch seen) := by
  unfold State.seekingHello
  split
  · exact .refl
  · split
    · exact .then (.move (.work (.comesUp epoch _ seeking))) (.tweak (.post .up))
    · exact .move (.work (.notes epoch seeking))

theorem Claim.upHello {epoch seen : Word} (up : (s.link l).isUp = true) :
    Claim i l s (s.upHello l epoch seen) := by
  unfold State.upHello
  split
  · exact .refl
  · have restart := Move.restartDead up
    split
    · exact .move restart
    · refine .moves (.head restart (Moves.loseLink ?_))
      rw [State.isUp_restartDead]
      exact up

theorem Claim.dispatch {f : Frame} (up : (s.link l).isUp = true) : Claim i l s (s.dispatch l f) := by
  have first : Moves l s (s.restartDead l) := .single (.restartDead up)
  have up' : ((s.restartDead l).link l).isUp = true := by rw [State.isUp_restartDead]; exact up
  cases f with
  | hello epoch seen => exact .upHello up
  | openRequest hdr service quota => exact .after first (.takeOpen up')
  | accept hdr quota => exact .after first (.takeAccept up')
  | refuse hdr reason => exact .after first .takeRefuse
  | close hdr reason => exact .after first (.takeClose up')
  | closed hdr => exact .after first .takeClosed
  | data hdr sequence payload =>
    exact .after first (.takeCredit up' fun _ _ _ before carries => .dataOn before carries _ _)
  | grant hdr limit =>
    exact .after first (.takeCredit up' fun _ _ _ before carries => .grantOn before carries _)
  | ask hdr => exact .after first (.takeCredit up' fun _ _ _ before carries => .oweGrant before carries)

theorem Claim.controller {f : Frame} : Claim i l s (s.controller l f) := by
  unfold State.controller
  split
  · exact .refl
  · rename_i seeking
    split
    · exact .seekingHello seeking
    · exact .refl
  · rename_i up
    exact .dispatch (State.isUp_of_state up)

end Sys2Proof.Machine
end

section
/-! PROOFS. Every event is of one of the forms of `Event` (chapters 1 to 9). -/

namespace Sys2Proof.Machine

set_option Elab.async false

open Relation (ReflTransGen)

variable {s t u : State} {l : LinkNo} {c : CircuitNo} {r : Record} {i : Instr}

/-! ### What no move on a link changes -/

theorem Tweak.sameOutside (h : Tweak l s t) : s.SameOutside t := by
  cases h with
  | link => exact ⟨rfl, rfl, rfl⟩
  | post => exact ⟨rfl, rfl, rfl⟩
  | record _ _ _ rewrites => exact rewrites.outside
  | collectCircuit => exact ⟨rfl, rfl, rfl⟩
  | collectLink => exact ⟨rfl, rfl, rfl⟩

theorem RecordStep.sameOutside (h : RecordStep l s t) : s.SameOutside t := by
  obtain ⟨_, _, _, _, -, -, -, rewrites⟩ := h
  exact rewrites.outside

/-- What every step of a row keeps alike, the row keeps. -/
theorem State.sameOutside_of_row {R : State → State → Prop} (h : ∀ {s t}, R s t → s.SameOutside t)
    (row : ReflTransGen R s t) : s.SameOutside t := by
  induction row with
  | refl => exact .refl s
  | tail _ step ih => exact ih.trans (h step)

theorem State.SameOutside.of_frame (outside : t.outside = s.outside := by simp [State.outside])
    (held : t.held = s.held := by simp) (powering : t.powering = s.powering := by simp) : s.SameOutside t :=
  ⟨outside, held, powering⟩

theorem Move.sameOutside (h : Move l s t) : s.SameOutside t := by
  cases h with
  | tweak h => exact h.sameOutside
  | work => exact ⟨rfl, rfl, rfl⟩
  | record _ _ _ _ rewrites => exact rewrites.outside
  | opens _ _ _ steps _ =>
    exact (State.sameOutside_of_row RecordStep.sameOutside steps).trans ⟨rfl, rfl, rfl⟩
  | answer => exact ⟨rfl, rfl, rfl⟩
  | loses => exact ⟨rfl, rfl, rfl⟩
  | stops =>
    exact .of_frame (by simp [State.outside, State.stopLink, State.linkDown])
      (by simp [State.stopLink, State.linkDown]) (by simp [State.stopLink, State.linkDown])
  | halts =>
    exact .of_frame (by simp [State.outside, State.stopLink]) (by simp [State.stopLink])
      (by simp [State.stopLink])
  | endsFrame => exact .of_frame

theorem Once.sameOutside (h : Once i l s t) : s.SameOutside t := by
  cases h with
  | allocates _ _ first _ h => exact (State.sameOutside_of_row Move.sameOutside first).trans h.outside
  | frees _ _ h => exact h.outside
  | accepts _ _ _ h => exact h.outside
  | offers _ _ h => exact h.outside
  | delivers _ _ _ _ h => exact h.outside

theorem Claim.sameOutside (h : Claim i l s t) : s.SameOutside t := by
  cases h with
  | moves h => exact State.sameOutside_of_row Move.sameOutside h
  | once before once after =>
    exact ((State.sameOutside_of_row Move.sameOutside before).trans once.sameOutside).trans
      (State.sameOutside_of_row Move.sameOutside after)

theorem State.SameOutside.finishClaim (b s : State) (l : LinkNo) :
    s.SameOutside (State.finishClaim b s l) := .of_frame

theorem State.SameOutside.eq_withOutside (h : s.SameOutside t) : t.withOutside s.outside = t := by
  rw [← h.outside]; rfl

/-! ### What a line brings (chapters 6 and 7) -/

/-- What a line or a link's timer brings to its link: changes that leave its scheduler nothing new to send, or a
claim. -/
inductive LineOutcome (i : Instr) (l : LinkNo) (s : State) : State → Prop
  | quiet {t : State} (tweaks : ReflTransGen (Tweak l) s t) : LineOutcome i l s t
  | claim {u t : State} (b : State) (claim : Claim i l s u)
    (tweaks : ReflTransGen (Tweak l) (State.finishClaim b u l) t) : LineOutcome i l s t

theorem LineOutcome.refl : LineOutcome i l s s := .quiet .refl

theorem LineOutcome.tweak (h : Tweak l s t) : LineOutcome i l s t := .quiet (.single h)

theorem LineOutcome.finish (b : State) (h : Claim i l s t) : LineOutcome i l s (State.finishClaim b t l) :=
  .claim b h .refl

theorem LineOutcome.after (first : Tweak l s t) (h : LineOutcome i l t u) : LineOutcome i l s u := by
  cases h with
  | quiet tweaks => exact .quiet (.head first tweaks)
  | claim b claim tweaks => exact .claim b (.after (.single (.tweak first)) claim) tweaks

theorem LineOutcome.event (h : LineOutcome i l s t) (running : s.held = false) (line : lineOf i = some l) :
    Event i s t := by
  have own : ∀ m, lineOf i = some m → m = l ∧ s.outside = s.outside := fun m hm => by
    rw [line] at hm
    cases hm
    exact ⟨rfl, rfl⟩
  cases h with
  | quiet tweaks =>
    rw [← (State.sameOutside_of_row Tweak.sameOutside tweaks).eq_withOutside]
    exact .quiet l _ running own tweaks
  | claim b claim tweaks =>
    have same := (claim.sameOutside.trans (.finishClaim b _ l)).trans
      (State.sameOutside_of_row Tweak.sameOutside tweaks)
    rw [← same.eq_withOutside]
    exact .claim l b _ running own claim tweaks

/-- An event of a line in a part that may be held. -/
theorem event_of_unlessHeld {f : State → State} (line : lineOf i = some l)
    (outcome : LineOutcome i l s (f s)) (h : s.unlessHeld f = .next t) : Event i s t := by
  unfold State.unlessHeld at h
  cases h
  split
  · exact .skip
  · rename_i running
    exact outcome.event (Bool.eq_false_iff.2 running) line

theorem Tweak.endAssembly (a : Assembly) : Tweak l s (s.endAssembly l a) := .link (.assembles a [])

theorem LineOutcome.recordFault (cause : FaultCause) : LineOutcome i l s (s.recordFault l cause) :=
  .after (.link (.faults cause)) (.tweak (.post .fault))

theorem LineOutcome.handleFrame (f : Frame) : LineOutcome i l s (s.handleFrame l f) :=
  .finish _ (.after (.single (.tweak (.endAssembly .gather))) .controller)

theorem LineOutcome.handleDiscard (cause : FrameFault) : LineOutcome i l s (s.handleDiscard l cause) :=
  .after (.endAssembly _) (.recordFault _)

theorem LineOutcome.arrive (f : Frame) : LineOutcome i l s (s.arrive l f) := by
  unfold State.arrive
  split
  · rename_i looped
    split
    · have taken : Tweak l s (s.onLink l fun x =>
          { x with loopPath := x.loopPath.drop (lineCharacters f).length }) := .link (.takes _ looped)
      dsimp only
      split
      · exact .tweak taken
      · exact .after taken (.handleFrame f)
    · exact .refl
  · split
    · exact .refl
    · exact .handleFrame f

theorem LineOutcome.discard (cause : FrameFault) : LineOutcome i l s (s.discard l cause) := by
  unfold State.discard
  split
  · exact .refl
  · exact .handleDiscard cause

theorem LineOutcome.deliver (b : Byte) : LineOutcome i l s (s.deliver l b) := by
  unfold State.deliver
  split
  · exact .refl
  · extract_lets assembled
    split
    · exact .tweak (.link (.assembles _ _))
    · exact .handleDiscard _
    · split
      · exact .handleFrame _
      · exact .handleDiscard _

theorem Tweak.setReceiver {x : ReceiverState}
    (fits : ∀ cfg, x = .receiving cfg → cfg = (s.link l).config) : Tweak l s (s.setReceiver l x) :=
  .link (.watches x fits)

theorem Tweak.setReceiver_ready : Tweak l s (s.setReceiver l .ready) := .setReceiver (by simp)

theorem LineOutcome.startEdge : LineOutcome i l s
    (if (s.link l).receiver = .ready then s.setReceiver l (.receiving (s.link l).config) else s) := by
  split
  · exact .tweak (.setReceiver (by simp))
  · exact .refl

theorem faultReceiver_not_receiving (f : LineFault) (cfg : LineConfig) : faultReceiver f ≠ .receiving cfg := by
  cases f <;> simp [faultReceiver]

theorem LineOutcome.takeLineFault (f : LineFault) : LineOutcome i l s (s.takeLineFault l f) := by
  unfold State.takeLineFault
  split
  · refine .after (.setReceiver fun cfg h => absurd h (faultReceiver_not_receiving f cfg)) ?_
    unfold State.deliverFault
    split
    · exact .refl
    · exact .after (.endAssembly .hunt) (.recordFault _)
  · exact .refl

theorem LineOutcome.watchLine (input : ReceiverInput) : LineOutcome i l s (s.watchLine l input) := by
  unfold State.watchLine
  cases input with
  | startEdge => exact .startEdge
  | spaceWithoutEdge =>
    dsimp only
    split
    · exact .tweak (.setReceiver (by simp))
    · exact .refl
  | character samples =>
    dsimp only
    split
    · exact .refl
    · split
      · exact .tweak .setReceiver_ready
      · exact .after .setReceiver_ready (.deliver _)
      · exact .takeLineFault _

theorem LineOutcome.watchPath (looped : (s.link l).config.loopback = true) (input : ReceiverInput) :
    LineOutcome i l s (s.watchPath l input) := by
  unfold State.watchPath
  split
  · exact .refl
  · rename_i b rest path
    cases input with
    | startEdge => exact .startEdge
    | spaceWithoutEdge => exact .refl
    | character samples =>
      dsimp only
      split
      · exact .refl
      · refine .after .setReceiver_ready (.after (.link (.takes rest ?_)) (.deliver b))
        simpa [State.setReceiver] using looped

theorem Event.of_receivedCharacter {input : ReceiverInput} (h : execReceivedCharacter l input s = .next t) :
    Event (.receivedCharacter l input) s t := by
  refine event_of_unlessHeld rfl ?_ h
  split
  · rename_i looped
    exact .watchPath looped input
  · exact .watchLine input

theorem Event.of_returnToMark (h : execReturnToMark l s = .next t) : Event (.returnToMark l) s t := by
  refine event_of_unlessHeld rfl ?_ h
  split
  · exact .tweak .setReceiver_ready
  · exact .refl

theorem Event.of_dataFrame {hdr : Header} {sequence : Byte} {payload : List Byte}
    (h : execDataFrame l hdr sequence payload s = .next t) :
    Event (.dataFrame l hdr sequence payload) s t := by
  refine event_of_unlessHeld rfl ?_ h
  split
  · exact .discard _
  · split
    · exact .discard _
    · exact .arrive _

/-! ### The timers of a link and the transmitter -/

theorem Event.of_helloTimerExpiry (h : execHelloTimerExpiry l s = .next t) :
    Event (.helloTimerExpiry l) s t := by
  refine event_of_unlessHeld rfl ?_ h
  split
  · exact .refl
  · split
    · exact .refl
    · rename_i seeking; exact .finish _ (.move (.work (.dueHello _ (by simp [seeking]))))
    · rename_i up; exact .finish _ (.move (.work (.dueHello _ (by simp [up]))))

theorem Event.of_deadTimerExpiry (h : execDeadTimerExpiry l s = .next t) :
    Event (.deadTimerExpiry l) s t := by
  refine event_of_unlessHeld rfl ?_ h
  split
  · rename_i running
    exact .finish _ (.moves (.loseLink (State.isUp_of_state running.1)))
  · exact .refl

theorem State.setLink_link (s : State) (l : LinkNo) : s.setLink l (s.link l) = s := by
  simp [State.setLink, State.link]

theorem Tweak.idleHello (s : State) (l : LinkNo) : ReflTransGen (Tweak l) s (s.idleHello l) := by
  unfold State.idleHello State.onLink
  dsimp only
  split
  · rename_i idle
    rw [Bool.and_eq_true] at idle
    exact .single (.link (.idles _ idle.1))
  · rw [State.setLink_link]

theorem Event.of_transmissionCompletion (h : execTransmissionCompletion l s = .next t) :
    Event (.transmissionCompletion l) s t := by
  refine event_of_unlessHeld rfl ?_ h
  split
  · exact .refl
  · rename_i sending
    simp only [Option.isNone_iff_eq_none, not_or, not_not, ne_eq] at sending
    exact .claim s (.move (.endsFrame (Option.isSome_iff_ne_none.2 sending.1) sending.2)) (Tweak.idleHello _ l)

theorem Event.of_cutDelimiterCompletion (h : execCutDelimiterCompletion l s = .next t) :
    Event (.cutDelimiterCompletion l) s t := by
  refine event_of_unlessHeld rfl ?_ h
  split
  · exact .refl
  · rename_i due
    exact .tweak (.link (.endsDelimiter due))

end Sys2Proof.Machine
end

section
/-! PROOFS. Commands, circuit timers and resets as forms of an event (chapters 1 to 9), and the statement for every
event: `event_of_exec`. -/

namespace Sys2Proof.Machine

set_option Elab.async false

open Relation (ReflTransGen)

variable {s t u : State} {l : LinkNo} {c : CircuitNo} {r : Record} {i : Instr} {w : Outside}

/-! ### Events of the host and of circuit timers -/

theorem event_of_running {f : State → State} (event : s.held = false → Event i s (f s))
    (h : s.unlessHeld f = .next t) : Event i s t := by
  unfold State.unlessHeld at h
  cases h
  split
  · exact .skip
  · rename_i running
    exact event (Bool.eq_false_iff.2 running)

theorem Event.hostClaim {b : State} (running : s.held = false) (host : lineOf i = none)
    (claim : Claim i l s u) (w : Outside) : Event i s ((State.finishClaim b u l).withOutside w) :=
  .claim l b w running (fun m hm => by simp [host] at hm) claim .refl

theorem Event.hostQuiet (running : s.held = false) (host : lineOf i = none) (tweak : Tweak l s t)
    (w : Outside) : Event i s (t.withOutside w) :=
  .quiet l w running (fun m hm => by simp [host] at hm) (.single tweak)

/-- The completion of a command is its effect, with its reply written into the window (R167). -/
theorem event_of_completing {name : CommandName} {effect : Command → State → Reply × State}
    (event : ∀ cmd w, s.held = false → Event i s ((effect cmd s).2.withOutside w))
    (h : s.completing name effect = .next t) : Event i s t := by
  refine event_of_running (fun running => ?_) h
  split
  · exact .skip
  · rename_i cmd _
    split
    · exact event cmd ((effect cmd s).2.complete cmd (effect cmd s).1).outside running
    · exact .skip

/-- A command that names a circuit (R2). -/
theorem Event.forCircuit {cmd : Command} {f : CircuitNo → Record → Reply × State}
    (running : s.held = false) (host : lineOf i = none)
    (event : ∀ c r, s.record c = some r → Event i s ((f c r).2.withOutside w)) :
    Event i s ((s.forCircuit cmd f).2.withOutside w) := by
  unfold State.forCircuit State.named
  cases circuitOf cmd.args[0].toNat with
  | none => exact .window w running host
  | some c =>
    cases before : s.record c with
    | none => simpa [before] using Event.window w running host
    | some r => simpa [before] using event c r before

theorem event_of_circuitCommand {name : CommandName} {f : Command → State → CircuitNo → Record → Reply × State}
    (host : lineOf i = none)
    (event : ∀ cmd w c r, s.held = false → s.record c = some r →
      Event i s ((f cmd s c r).2.withOutside w))
    (h : (s.completing name fun cmd s => s.forCircuit cmd (f cmd s)) = .next t) : Event i s t :=
  event_of_completing (fun cmd w running =>
    .forCircuit running host fun c r before => event cmd w c r running before) h

/-! ### The window (chapter 9) -/

theorem Event.of_busWrite {word : BitVec 5} {value : Word} (host : lineOf i = none)
    (h : (s.unlessHeld fun s => s.busWrite word value) = .next t) : Event i s t := by
  refine event_of_running (fun running => ?_) h
  have plain {v : State} (same : v = s.withOutside v.outside) : Event i s v := by
    rw [same]
    exact .window _ running host
  have mailbox {f : State → State} (same : f s = s.withOutside (f s).outside) : Event i s (s.mailbox f) := by
    unfold State.mailbox
    split
    · exact plain rfl
    · exact plain same
  unfold State.busWrite
  split
  · exact mailbox rfl
  · split
    · exact plain rfl
    · split
      · exact plain rfl
      · split
        · exact mailbox rfl
        · split
          · exact mailbox rfl
          · exact .skip

theorem Event.of_partConfigure (h : execPartConfigure s = .next t) : Event .partConfigure s t := by
  refine event_of_completing (fun cmd w running => ?_) h
  split
  · exact .window w running rfl
  · exact .window w running rfl

/-! ### The Service Table (chapter 2) -/

theorem Event.of_serviceRegister (h : execServiceRegister s = .next t) : Event .serviceRegister s t := by
  refine event_of_completing (fun cmd w running => ?_) h
  split
  · exact .window w running rfl
  · rename_i e entry
    split
    · exact .window w running rfl
    · rename_i fresh
      split
      · exact .window w running rfl
      · rename_i room
        have range : e.inRange := Service.inRange_of_ofArgs entry
        exact .services w running rfl (.adds (e := { e with active := s.countFor e.number }) range
          (Bool.eq_false_iff.2 fresh) (not_le.1 room) rfl)

theorem Event.of_serviceAmend (h : execServiceAmend s = .next t) : Event .serviceAmend s t := by
  refine event_of_completing (fun cmd w running => ?_) h
  split
  · exact .window w running rfl
  · split
    · exact .window w running rfl
    · split
      · exact .window w running rfl
      · rename_i entry
        exact .services w running rfl (.amends (Service.inRange_of_ofArgs entry))

theorem Event.of_serviceQuery (h : execServiceQuery s = .next t) : Event .serviceQuery s t := by
  refine event_of_completing (fun cmd w running => ?_) h
  split
  · exact .window w running rfl
  · split
    · exact .window w running rfl
    · exact .window w running rfl

/-- A forced withdrawal of one circuit is moves on its link (R32). -/
theorem State.withdrawCircuit_moves (s : State) (number : Byte) (c : CircuitNo) :
    MovesAny s (s.withdrawCircuit number c) := by
  unfold State.withdrawCircuit
  split
  · exact .refl
  · rename_i r before
    have closing (sends : r.phase.sendsData = true) :
        MovesAny s ((s.owe c .close).endCircuit c .withdrawn none) :=
      .single ⟨r.link, .oweEnd before (Phase.live_of_sendsData sends)
        (Record.endFits_close (Phase.counted_of_sendsData sends) rfl)⟩
    split
    · split
      · rename_i offered
        have live : r.phase.live = true := by simp [offered, Phase.live]
        have fits : r.EndFits .withdrawn r.owed.afterEnd :=
          Record.endFits_of_nothing fun kinds _ => by
            simp [Record.owedKinds, offered, Owed.isEmpty] at kinds
            simp [Owed.afterEnd, Owed.isEmpty, kinds]
        have answered (item : AnswerItem) : Move r.link s (s.answer r.link item) :=
          .answer item (State.runs_of_live before live)
        exact .head ⟨r.link, answered _⟩ (.single ⟨r.link, .ends (by simpa using before) live fits⟩)
      · rename_i phase; exact closing (by simp [phase, Phase.sendsData])
      · rename_i phase; exact closing (by simp [phase, Phase.sendsData])
      · exact .refl
    · exact .refl

theorem Event.forceWithdraw {number : Byte} (running : s.held = false) :
    Event .serviceWithdraw s ((s.forceWithdraw number).2.withOutside w) := by
  have moves : MovesAny s (s.forCircuits fun c u => u.withdrawCircuit number c) :=
    State.forCircuits_moves (fun c u => u.withdrawCircuit_moves number c) s
  unfold State.forceWithdraw
  dsimp only
  exact .withdraws number s w running rfl moves

theorem Event.of_serviceWithdraw (h : execServiceWithdraw s = .next t) : Event .serviceWithdraw s t := by
  refine event_of_completing (fun cmd w running => ?_) h
  split
  · exact .window w running rfl
  · split
    · exact .window w running rfl
    · rename_i e _
      split
      · exact .forceWithdraw running
      · split
        · exact .window w running rfl
        · exact .services w running rfl (.removes e.number)

/-! ### Circuits (chapters 1 and 3) -/

theorem Event.declineOffer (running : s.held = false) (host : lineOf i = none) (before : s.record c = some r)
    (offered : r.phase = .offered) : Event i s ((s.declineOffer c r).2.withOutside w) := by
  obtain ⟨u, answer, free⟩ := Once.refuseOffer (i := i) before offered refuseDeclined
  exact .hostClaim running host (.after (.single answer) (.of_once free)) w

theorem Event.of_circuitAnswer (h : execCircuitAnswer s = .next t) : Event .circuitAnswer s t := by
  refine event_of_circuitCommand rfl (fun cmd w c r running before => ?_) h
  split
  · exact .window w running rfl
  · rename_i offered
    obtain offered := not_not.1 offered
    split
    · exact .window w running rfl
    · extract_lets tag answered
      have live : r.phase.live = true := by simp [offered, Phase.live]
      have opened : s.Rewrites _ c r { r with phase := .opened, tag := tag, holdTimer := none } none :=
        .setRecord before (live := live.symm)
      have accepting := opened.trans (.owe opened.after .accept) (.inl rfl) fun empty => .inr ⟨empty, rfl⟩
      exact .hostClaim running rfl (.move (.record rfl (.answers offered)
        (fun _ => by simp [offered, Phase.counted]) (fun _ => .inr (State.runs_of_live before live))
        accepting)) w

theorem Event.of_circuitRefuse (h : execCircuitRefuse s = .next t) : Event .circuitRefuse s t := by
  refine event_of_circuitCommand rfl (fun cmd w c r running before => ?_) h
  split
  · exact .window w running rfl
  · rename_i offered
    exact .declineOffer running rfl before (not_not.1 offered)

theorem CallArgs.ranges_of_ofArgs {words : Vector Word 8} {a : CallArgs}
    (h : CallArgs.ofArgs words = some a) :
    (1 ≤ a.quota ∧ a.quota ≤ 64) ∧ (1 ≤ a.threshold ∧ a.threshold ≤ a.quota) ∧ 1 ≤ a.depth ∧ a.depth ≤ 32 := by
  unfold CallArgs.ofArgs at h
  split at h
  · simp only [Option.ite_none_right_eq_some, Option.some.injEq, Bool.and_eq_true, inRange_iff] at h
    obtain ⟨⟨⟨⟨-, quota⟩, threshold⟩, depth⟩, rfl⟩ := h
    exact ⟨quota, threshold, depth⟩
  · cases h

theorem State.record_of_lowestFree (h : s.lowestFree = some c) : s.record c = none := by
  simpa using List.find?_some h

theorem Event.of_circuitCall (h : execCircuitCall s = .next t) : Event .circuitCall s t := by
  refine event_of_completing (fun cmd w running => ?_) h
  split
  · exact .window w running rfl
  · rename_i a asked
    split
    · exact .window w running rfl
    · rename_i up
      have up : (s.link a.link).isUp = true := by simpa using up
      split
      · exact .window w running rfl
      · rename_i c lowest
        split
        · exact .window w running rfl
        · rename_i room
          have allocates : s.Allocates ((s.allocate c a.allocation).owe c .openRequest) c a.allocation
              { openRequest := true } none :=
            .intro (.call rfl rfl rfl rfl rfl) (State.record_of_lowestFree lowest) up rfl rfl
              (by simpa [State.hasRoom, CallArgs.allocation] using room) (fun _ => CallArgs.ranges_of_ofArgs asked)
              (.inr ⟨.openRequest, rfl, rfl⟩)
          exact .hostClaim running rfl (.of_once (.allocates rfl (fun line => absurd rfl line) .refl
            (fun _ p hp => by cases hp) allocates)) w

theorem Event.of_circuitClose (h : execCircuitClose s = .next t) : Event .circuitClose s t := by
  refine event_of_circuitCommand rfl (fun cmd w c r running before => ?_) h
  split
  · exact .window w running rfl
  · rename_i opened
    obtain opened := not_not.1 opened
    split
    · rename_i empty
      exact .hostClaim running rfl (.move (.beginClosing before opened (by simpa using empty))) w
    · rename_i queued
      have quiet : r.Quiet { r with phase := .draining } :=
        ⟨rfl, fun m h => ⟨by simpa [Record.eligible, opened, Phase.sendsData, Record.credit] using h, rfl⟩,
          fun _ => by simp [opened, Phase.counted]⟩
      exact .hostQuiet running rfl (.record rfl (.drains opened (by simpa using queued)) quiet
        (.setRecord before (live := by simp [opened, Phase.live]))) w

theorem Event.of_circuitAbort (h : execCircuitAbort s = .next t) : Event .circuitAbort s t := by
  refine event_of_circuitCommand rfl (fun cmd w c r running before => ?_) h
  have aborted (counted : r.phase.counted = true) : Event .circuitAbort s
      ((State.finishClaim s ((s.owe c .close).endCircuit c .localAbort none) r.link).withOutside w) :=
    .hostClaim running rfl (.move (.oweEnd before (Phase.live_of_counted counted)
      (Record.endFits_close counted rfl))) w
  extract_lets reply
  split
  · exact .window w running rfl
  · rename_i offered; exact .declineOffer running rfl before offered
  · rename_i calling
    exact .hostClaim running rfl (.move (.ends before (by simp [calling, Phase.live])
      (Record.endFits_calling calling))) w
  · rename_i phase; exact aborted (by simp [phase, Phase.counted])
  · rename_i phase; exact aborted (by simp [phase, Phase.counted])
  · rename_i phase; exact aborted (by simp [phase, Phase.counted])

theorem Event.of_circuitRelease (h : execCircuitRelease s = .next t) : Event .circuitRelease s t := by
  refine event_of_circuitCommand rfl (fun cmd w c r running before => ?_) h
  split
  · exact .window w running rfl
  · rename_i ended
    have ended : r.phase.live = false := Bool.eq_false_iff.2 ended
    exact .release w running rfl ended (.freeCircuit before rfl (by simp [ended]))

theorem Event.of_circuitQuery (h : execCircuitQuery s = .next t) : Event .circuitQuery s t :=
  event_of_circuitCommand rfl (fun _ w _ _ running _ => .window w running rfl) h

theorem Event.of_circuitFind (h : execCircuitFind s = .next t) : Event .circuitFind s t := by
  refine event_of_completing (fun cmd w running => ?_) h
  extract_lets mode v1 v2
  split
  · exact .window w running rfl
  · split
    · exact .window w running rfl
    · exact .window w running rfl

/-- A GRANT is owed where the comparison of R85 says so. -/
theorem Moves.oweGrantIf {due : Bool} (before : s.record c = some r) (on : r.link = l)
    (carries : due = true → r.phase.carriesData = true) :
    Moves l s (if due then s.owe c .grant else s) := by
  subst on
  split
  · rename_i isDue
    have carries := carries isDue
    exact .single (.owe before carries (State.runs_of_live before (Phase.live_of_carriesData carries)))
  · exact .refl

theorem amended_spec {a : Vector Word 8} {q : Record} (h : amended a r = some q) :
    ∃ priority threshold depth tag,
      q = { r with priority := priority, threshold := threshold, depth := depth, tag := tag }
      ∧ (threshold = r.threshold ∨ (1 ≤ threshold ∧ threshold ≤ r.quota))
      ∧ (depth = r.depth ∨ (1 ≤ depth ∧ depth ≤ 32 ∧ r.txQueue.length ≤ depth)) := by
  unfold amended at h
  split at h
  · cases h
  · simp only [Option.ite_none_left_eq_some, Option.some.injEq] at h
    obtain ⟨inQuota, holds, rfl⟩ := h
    refine ⟨_, _, _, _, rfl, ?_, ?_⟩
    · split
      · rename_i selected
        simp only [selected, Bool.true_and, if_true, Bool.not_eq_true, Bool.not_eq_false'] at inQuota
        exact .inr ((inRange_iff _ _ _).1 inQuota)
      · exact .inl rfl
    · split
      · rename_i selected
        simp only [selected, Bool.true_and, if_true, Bool.not_eq_true, Bool.not_eq_false', Bool.and_eq_true,
          inRange_iff, decide_eq_true_eq] at holds
        exact .inr ⟨holds.1.1, holds.1.2, holds.2⟩
      · exact .inl rfl

theorem Event.of_circuitAmend (h : execCircuitAmend s = .next t) : Event .circuitAmend s t := by
  refine event_of_circuitCommand rfl (fun cmd w c r running before => ?_) h
  split
  · exact .window w running rfl
  · rename_i live
    have live : r.phase.live = true := by simpa using live
    split
    · exact .window w running rfl
    · split
      · exact .window w running rfl
      · rename_i q amendment
        obtain ⟨priority, threshold, depth, tag, rfl, inQuota, holds⟩ := amended_spec amendment
        have written : s.Rewrites _ c r
            { r with priority := priority, threshold := threshold, depth := depth, tag := tag } none :=
          .setRecord before
        have amends : Move r.link s _ := .record rfl (.amends inQuota holds live) id
          (fun _ => .inr (State.runs_of_live before live)) written
        exact .hostClaim running rfl (.moves (.head amends
          (Moves.oweGrantIf written.after rfl fun due => by
            simp only [Bool.and_eq_true] at due
            exact due.1.2))) w

/-! ### Data and notices (chapters 4, 5 and 8) -/

theorem Event.of_send (h : execSend s = .next t) : Event .send s t := by
  refine event_of_circuitCommand rfl (fun cmd w c r running before => ?_) h
  extract_lets n queued written sent
  split
  · exact .window w running rfl
  · split
    · exact .window w running rfl
    · rename_i phase
      have phase : r.phase = .calling ∨ r.phase = .opened := by tauto
      split
      · have quiet : r.Quiet { r with roomWanted := true } := ⟨rfl, fun m h => ⟨h, rfl⟩, id⟩
        exact .hostQuiet running rfl (.record rfl (.wantsRoom phase) quiet (.setRecord before)) w
      · rename_i room
        simp only [not_or, not_le] at room
        have rewrites : s.Rewrites sent c r queued none :=
          .write before (tx := by
            simp only [queued, Record.settleAsk, List.length_append, List.length_singleton]
            change s.txFree - 1 + _ = _
            omega)
          (rx := (Nat.add_sub_cancel _ _).symm)
        exact .hostClaim running rfl (.move (.record rfl (.queues phase room.1) id
          (fun something => .inl something) rewrites)) w

theorem Event.of_receive (h : execReceive s = .next t) : Event .receive s t := by
  refine event_of_circuitCommand rfl (fun cmd w c r running before => ?_) h
  split
  · exact .window w running rfl
  · rename_i phase
    split
    · exact .window w running rfl
    · rename_i item rest head
      have rewrites : s.Rewrites
          { s.setRecord c (some { r with rxQueue := rest }) with
            txFree := s.txFree, cellsHeld := s.cellsHeld - 1 } c r { r with rxQueue := rest } none :=
        .write before (rx := by simp only [head, List.length_cons]; omega)
      exact .hostClaim running rfl (.once .refl
        (.delivers rfl rfl (not_or.1 phase) head rewrites)
        (Moves.oweGrantIf rewrites.after rfl fun due => by
          rw [Bool.and_eq_true] at due
          exact due.1)) w

theorem Event.of_nextNotice (h : execNextNotice s = .next t) : Event .nextNotice s t := by
  refine event_of_completing (fun cmd w running => ?_) h
  split
  · exact .window w running rfl
  · rename_i head; exact .hostQuiet (l := 0) running rfl (.collectCircuit head) w
  · rename_i head; exact .hostQuiet (l := 0) running rfl (.collectLink head) w

/-! ### Links (chapters 6 and 7) -/

theorem Event.of_linkConfigure {lines : LinesNow} (h : execLinkConfigure lines s = .next t) :
    Event (.linkConfigure lines) s t := by
  refine event_of_completing (fun cmd w running => ?_) h
  split
  · exact .window w running rfl
  · split
    · exact .window w running rfl
    · rename_i stopped
      split
      · exact .window w running rfl
      · exact .hostQuiet running rfl (.link (.configures _ lines (not_not.1 stopped))) w

theorem Event.of_linkStart (h : execLinkStart s = .next t) : Event .linkStart s t := by
  refine event_of_completing (fun cmd w running => ?_) h
  split
  · exact .window w running rfl
  · split
    · exact .window w running rfl
    · rename_i stopped
      exact .hostClaim running rfl (.move (.work (.starts _ (not_not.1 stopped)))) w

theorem Event.of_linkStop (h : execLinkStop s = .next t) : Event .linkStop s t := by
  refine event_of_completing (fun cmd w running => ?_) h
  split
  · exact .window w running rfl
  · split
    · exact .window w running rfl
    · rename_i seeking
      exact .hostClaim running rfl (.move (.halts seeking)) w
    · rename_i up
      have moves := Moves.stopUpLink (State.isUp_of_state up)
      dsimp only
      exact .hostClaim running rfl (.moves moves) w

theorem Event.of_linkQuery (h : execLinkQuery s = .next t) : Event .linkQuery s t := by
  refine event_of_completing (fun cmd w running => ?_) h
  split
  · exact .window w running rfl
  · exact .window w running rfl

/-! ### Resets (section 9.5) -/

theorem Event.of_clear (h : execClear s = .next t) : Event .clear s t := by
  refine event_of_completing (fun cmd w running => ?_) h
  dsimp only
  exact .clears w running rfl

theorem Event.of_resetnPulse {lowNs : Nat} {rxd : Vector LineLevel 4}
    (h : execResetnPulse lowNs rxd s = .next t) : Event (.resetnPulse lowNs rxd) s t := by
  refine event_of_running (fun _ => ?_) h
  split
  · exact .skip
  · exact .resets lowNs rxd rfl

theorem Event.of_resetnRelease (h : execResetnRelease s = .next t) : Event .resetnRelease s t := by
  unfold execResetnRelease at h
  cases h
  split
  · exact .skip
  · rename_i byPin
    exact .released rfl (Bool.eq_false_iff.2 byPin)

theorem Event.of_powerOn {moment : PowerMoment} {rxd : Vector LineLevel 4}
    (h : execPowerOn moment rxd s = .next t) : Event (.powerOn moment rxd) s t := by
  cases moment with
  | supplyRises => cases h; exact .rises rxd rfl
  | holdEnds low => cases h; exact .powers low rxd rfl

/-! ### Circuit timers (R11) -/

theorem Event.timerClaim {b : State} (running : s.held = false) (host : lineOf i = none)
    (claim : Claim i l s u) : Event i s (State.finishClaim b u l) :=
  .hostClaim running host claim (State.finishClaim b u l).outside

theorem State.Rewrites.retransmit (before : s.record c = some r) (k : ControlKind) :
    s.Rewrites (s.retransmit c r k) c r
      { r with retryCount := r.retryCount + 1, retryTimer := none, owed := r.owed.put k true } none := by
  have written : s.Rewrites _ c r { r with retryCount := r.retryCount + 1, retryTimer := none } none :=
    .setRecord before
  exact written.trans (.owe written.after k) (.inl rfl) fun empty => .inr ⟨empty, rfl⟩

theorem Event.of_retryTimerExpiry (h : execRetryTimerExpiry c s = .next t) :
    Event (.retryTimerExpiry c) s t := by
  refine event_of_running (fun running => ?_) h
  split
  · exact .skip
  · rename_i r before
    have repeats {k : ControlKind} (live : r.phase.live = true)
        (phase : (r.phase = .calling ∧ k = .openRequest) ∨ (∃ x, r.phase = .closing x) ∧ k = .close) :
        Move r.link s (s.retransmit c r k) :=
      .record rfl (.repeats phase) id (fun _ => .inr (State.runs_of_live before live))
        (.retransmit before k)
    split
    · exact .skip
    · rename_i isRunning
      split
      · rename_i calling
        have live : r.phase.live = true := by simp [calling, Phase.live]
        refine .timerClaim running rfl (.move ?_)
        split
        · exact repeats live (.inl ⟨calling, rfl⟩)
        · exact .ends before live (Record.endFits_calling calling)
      · rename_i x closing
        have live : r.phase.live = true := by simp [closing, Phase.live]
        refine .timerClaim running rfl (.move ?_)
        split
        · exact repeats live (.inr ⟨⟨x, closing⟩, rfl⟩)
        · refine .ends before live (Record.endFits_of_nothing fun kinds presence => ?_)
          simp [Record.owedKinds, closing] at kinds
          simp [Record.presence, closing, isRunning] at presence
          simp [Owed.afterEnd, Owed.isEmpty, kinds, presence]
      · exact .skip

theorem Event.of_holdTimerExpiry (h : execHoldTimerExpiry c s = .next t) :
    Event (.holdTimerExpiry c) s t := by
  refine event_of_running (fun running => ?_) h
  split
  · exact .skip
  · rename_i r before
    split
    · rename_i offer
      obtain ⟨u, answer, free⟩ :=
        Once.refuseOffer (i := .holdTimerExpiry c) before offer.1 refuseTimeout
      exact .timerClaim running rfl (.after (.single answer) (.of_once free))
    · exact .skip

theorem Event.of_askTimerExpiry (h : execAskTimerExpiry c s = .next t) :
    Event (.askTimerExpiry c) s t := by
  refine event_of_running (fun running => ?_) h
  split
  · exact .skip
  · rename_i r before
    split
    · rename_i asking
      rw [Bool.and_eq_true] at asking
      have live := Phase.live_of_sendsData asking.1
      have written : s.Rewrites _ c r { r with askTimer := some s.settings.askMs } none :=
        .setRecord before
      have asks := written.trans (.owe written.after .ask) (.inl rfl) fun empty => .inr ⟨empty, rfl⟩
      exact .timerClaim running rfl (.move (.record rfl (.asks asking.1 asking.2) id
        (fun _ => .inr (State.runs_of_live before live)) asks))
    · exact .skip

/-! ### Every event -/

theorem event_of_frame {f : Frame} (line : lineOf i = some l)
    (h : (s.unlessHeld fun s => s.arrive l f) = .next t) : Event i s t :=
  event_of_unlessHeld line (.arrive f) h

theorem event_of_discard {cause : FrameFault} (line : lineOf i = some l)
    (h : (s.unlessHeld fun s => s.discard l cause) = .next t) : Event i s t :=
  event_of_unlessHeld line (.discard cause) h

theorem event_of_lineFault {cause : LineFault} (line : lineOf i = some l)
    (h : (s.unlessHeld fun s => s.takeLineFault l cause) = .next t) : Event i s t :=
  event_of_unlessHeld line (.takeLineFault cause) h

/-- Whatever the event and the state, what the event makes of it has one of the forms of `Event`. -/
theorem event_of_exec (h : exec i s = .next t) : Event i s t := by
  cases i with
  | partConfigure => exact .of_partConfigure h
  | partQuery => exact event_of_completing (fun _ w running => .window w running rfl) h
  | clear => exact .of_clear h
  | linkConfigure lines => exact .of_linkConfigure h
  | linkStart => exact .of_linkStart h
  | linkStop => exact .of_linkStop h
  | linkQuery => exact .of_linkQuery h
  | serviceRegister => exact .of_serviceRegister h
  | serviceAmend => exact .of_serviceAmend h
  | serviceWithdraw => exact .of_serviceWithdraw h
  | serviceQuery => exact .of_serviceQuery h
  | circuitCall => exact .of_circuitCall h
  | circuitAnswer => exact .of_circuitAnswer h
  | circuitRefuse => exact .of_circuitRefuse h
  | circuitClose => exact .of_circuitClose h
  | circuitAbort => exact .of_circuitAbort h
  | circuitRelease => exact .of_circuitRelease h
  | circuitQuery => exact .of_circuitQuery h
  | circuitAmend => exact .of_circuitAmend h
  | circuitFind => exact .of_circuitFind h
  | send => exact .of_send h
  | receive => exact .of_receive h
  | nextNotice => exact .of_nextNotice h
  | poolQuery => exact event_of_completing (fun _ w running => .window w running rfl) h
  | badCommand => exact event_of_completing (fun _ w running => .window w running rfl) h
  | mailboxWrite word value => exact .of_busWrite rfl h
  | statusWrite value => exact .of_busWrite rfl h
  | controlWrite value => exact .of_busWrite rfl h
  | resetnPulse lowNs rxd => exact .of_resetnPulse h
  | resetnRelease => exact .of_resetnRelease h
  | powerOn moment rxd => exact .of_powerOn h
  | helloFrame l epoch seen => exact event_of_frame (f := .hello epoch seen) rfl h
  | openFrame l hdr service quota => exact event_of_frame (f := .openRequest hdr service quota) rfl h
  | acceptFrame l hdr quota => exact event_of_frame (f := .accept hdr quota) rfl h
  | refuseFrame l hdr reason => exact event_of_frame (f := .refuse hdr reason) rfl h
  | closeFrame l hdr reason => exact event_of_frame (f := .close hdr reason) rfl h
  | closedFrame l hdr => exact event_of_frame (f := .closed hdr) rfl h
  | dataFrame l hdr sequence payload => exact .of_dataFrame h
  | grantFrame l hdr limit => exact event_of_frame (f := .grant hdr limit) rfl h
  | askFrame l hdr => exact event_of_frame (f := .ask hdr) rfl h
  | frameDiscard l cause => exact event_of_discard rfl h
  | lineFault l cause => exact event_of_lineFault rfl h
  | retryTimerExpiry c => exact .of_retryTimerExpiry h
  | holdTimerExpiry c => exact .of_holdTimerExpiry h
  | askTimerExpiry c => exact .of_askTimerExpiry h
  | helloTimerExpiry l => exact .of_helloTimerExpiry h
  | deadTimerExpiry l => exact .of_deadTimerExpiry h
  | transmissionCompletion l => exact .of_transmissionCompletion h
  | commandStart value => exact .of_busWrite rfl h
  | receivedCharacter l input => exact .of_receivedCharacter h
  | returnToMark l => exact .of_returnToMark h
  | cutDelimiterCompletion l => exact .of_cutDelimiterCompletion h

end Sys2Proof.Machine
end

section
/-! PROOFS. The end of a claim, said once: the ROOM notices as moves, the frame start of a boundary by its source
(R101 to R108), and the two principles by which a law of the part is kept: `Kept.event` and `Kept.step`. -/

namespace Sys2Proof.Machine

set_option Elab.async false

open Relation (ReflTransGen)

variable {s t u v : State} {l : LinkNo} {c : CircuitNo} {r : Record} {i : Instr}

/-! ### The start of a frame -/

/-- What the start of a frame does to the link itself (R123, R139, R149). -/
def Link.started (x : Link) (f : Frame) : Link :=
  { x with
    onLine := some f
    helloTimer := if x.isUp then none else x.helloTimer
    transmitter := if x.cutDelimiters = 0 then .sendingFrame x.config else x.transmitter
    loopPath := if x.config.loopback then x.loopPath ++ lineCharacters f else x.loopPath }

theorem State.startFrame_eq (s : State) (l : LinkNo) (f : Frame) :
    s.startFrame l f = s.onLink l fun x => x.started f := rfl

/-- The record of a circuit whose first payload has gone to the line (R108, R56). -/
def Record.afterData (r : Record) (askMs : Nat) (rest : List (List Byte)) : Record :=
  let q := Record.settleAsk askMs r { r with txQueue := rest, nextSeq := r.nextSeq + 1, sent := r.sent + 1 }
  if r.phase = .draining ∧ rest = [] then
    { q with phase := .closing .normal, retryCount := 0, owed := q.owed.put .close true }
  else q

/-- The control frame that a circuit starts, with what its start leaves of the record (R105). -/
def Record.afterFrame (r : Record) (retryMs : Nat) (k : ControlKind) : Record :=
  Record.afterControl { r with owed := r.owed.put k false } retryMs k

/-- What a frame boundary of link `l` makes of a part (R101, R102). -/
inductive Start (l : LinkNo) (s : State) : State → Prop
  | busy (h : (s.link l).state = .stopped ∨ (s.link l).onLine.isSome = true) : Start l s s
  | idle (hello : (s.link l).helloDue = false) (control : (s.link l).controlList = [])
    (answers : (s.link l).answerList = []) (data : s.dataChoice l = none) : Start l s s
  | drops {c : CircuitNo} {rest : List CircuitNo} (runs : (s.link l).state ≠ .stopped)
    (head : (s.link l).controlList = c :: rest)
    (nothing : ∀ r, s.record c = some r → r.owed.isEmpty = true) :
    Start l s (s.onLink l fun x => { x with controlList := rest })
  | hello (runs : (s.link l).state ≠ .stopped) (free : (s.link l).onLine = none) : Start l s (s.startHello l)
  | control {c : CircuitNo} {r : Record} {k : ControlKind} {rest : List CircuitNo}
    (runs : (s.link l).state ≠ .stopped) (free : (s.link l).onLine = none)
    (head : (s.link l).controlList = c :: rest) (before : s.record c = some r) (first : r.owed.first = some k) :
    Start l s (((s.setRecord c (some (r.afterFrame s.settings.retryMs k))).onLink l fun x =>
      { x with controlList := if (r.afterFrame s.settings.retryMs k).owed.isEmpty then rest else rest ++ [c] }
      ).startFrame l (r.controlFrame c (s.circuit c).generation k))
  | answer {item : AnswerItem} {rest : List AnswerItem} (runs : (s.link l).state ≠ .stopped)
    (free : (s.link l).onLine = none) (head : (s.link l).answerList = item :: rest) :
    Start l s (s.startAnswer l item rest)
  | data {u : State} {c : CircuitNo} {r : Record} {p : Fin 4} {payload : List Byte} {rest : List (List Byte)}
    (runs : (s.link l).state ≠ .stopped) (free : (s.link l).onLine = none)
    (before : s.record c = some r) (eligible : r.eligible l = true) (queue : r.txQueue = payload :: rest)
    (rewrites : s.Rewrites u c r (r.afterData s.settings.askMs rest) none) :
    Start l s (({ u with txFree := u.txFree - 1 }.onLink l fun x =>
      { x with lastServed := x.lastServed.set p c }).startFrame l
        (.data (r.header c (s.circuit c).generation) r.nextSeq payload))

/-! ### The sources of a boundary -/

theorem State.dataChoice_spec {p : Fin 4} (h : s.dataChoice l = some (p, c)) :
    ∃ r, s.record c = some r ∧ r.eligible l = true ∧ r.priority = p := by
  obtain ⟨q, -, found⟩ := List.exists_of_findSome?_eq_some h
  obtain ⟨d, choice, same⟩ := Option.map_eq_some_iff.1 found
  obtain ⟨rfl, rfl⟩ := Prod.mk.inj same
  have served := List.find?_some choice
  cases before : s.record d with
  | none => simp [before] at served
  | some r =>
    simp only [before, Bool.and_eq_true, decide_eq_true_eq] at served
    exact ⟨r, rfl, served⟩

@[simp] theorem State.setRecord_setRecord (s : State) (c : CircuitNo) (a b : Option Record) :
    (s.setRecord c a).setRecord c b = s.setRecord c b := by
  simp [State.setRecord, State.setCircuit, State.circuit]

@[simp] theorem State.onLink_onLink (s : State) (l : LinkNo) (f g : Link → Link) :
    (s.onLink l f).onLink l g = s.onLink l fun x => g (f x) := by
  simp [State.onLink, State.setLink, State.link]

theorem State.beginClosing_eq (before : s.record c = some r) :
    s.beginClosing c =
      let t := s.setRecord c
        (some { r with phase := .closing .normal, retryCount := 0, owed := r.owed.put .close true })
      if r.owed.isEmpty && (s.link r.link).isUp then t.joinControl r.link c else t := by
  unfold State.beginClosing State.owe
  simp only [before, State.record_setRecord_self, State.setRecord_setRecord]
  rfl

/-- The beginning of a close passes over the turn of a priority class and over a cell that is returned and taken
again. -/
theorem State.beginClosing_withCell {p : Fin 4} (before : v.record c = some r) (on : r.link = l) :
    (v.onLink l fun x => { x with lastServed := x.lastServed.set p c }).beginClosing c =
      { State.beginClosing { v with txFree := v.txFree + 1, cellsHeld := v.cellsHeld } c with
        txFree := (State.beginClosing { v with txFree := v.txFree + 1, cellsHeld := v.cellsHeld } c).txFree - 1
      }.onLink l fun x => { x with lastServed := x.lastServed.set p c } := by
  subst on
  have turned : (v.onLink r.link fun x => { x with lastServed := x.lastServed.set p c }).record c = some r := before
  have taken : State.record { v with txFree := v.txFree + 1, cellsHeld := v.cellsHeld } c = some r := before
  have up : ((v.onLink r.link fun x => { x with lastServed := x.lastServed.set p c }).link r.link).isUp =
      (v.link r.link).isUp := by rw [State.link_onLink_self]; rfl
  rw [State.beginClosing_eq turned, State.beginClosing_eq taken, up]
  simp only [State.link_with_txFree]
  by_cases joins : (r.owed.isEmpty && (v.link r.link).isUp) = true
  · have joined : ((v.onLink r.link fun x => { x with lastServed := x.lastServed.set p c }).onLink r.link
          fun x => { x with controlList := x.controlList ++ [c] }) =
        (v.onLink r.link fun x => { x with controlList := x.controlList ++ [c] }).onLink r.link
          fun x => { x with lastServed := x.lastServed.set p c } := by
      simp only [State.onLink_onLink]
    simp only [joins, if_true]
    exact congrArg (State.setRecord · c _) joined
  · simp only [joins]
    rfl

theorem Start.startData {p : Fin 4} (runs : (s.link l).state ≠ .stopped) (free : (s.link l).onLine = none)
    (choice : s.dataChoice l = some (p, c)) : Start l s (s.startData l p c) := by
  obtain ⟨r, before, eligible, -⟩ := State.dataChoice_spec choice
  obtain ⟨on, sends, queued⟩ : r.link = l ∧ r.phase.sendsData = true ∧ r.txQueue ≠ [] := by
    simp only [Record.eligible, Bool.and_eq_true, decide_eq_true_eq, Bool.not_eq_true',
      List.isEmpty_eq_false_iff] at eligible
    exact ⟨eligible.1.1.1, eligible.1.1.2, eligible.1.2⟩
  obtain ⟨payload, rest, queue⟩ := List.exists_cons_of_ne_nil queued
  let q := Record.settleAsk s.settings.askMs r
    { r with txQueue := rest, nextSeq := r.nextSeq + 1, sent := r.sent + 1 }
  let v := { s.setRecord c (some q) with txFree := s.txFree + 1, cellsHeld := s.cellsHeld }
  have cell : s.txFree + 1 + q.txQueue.length = s.txFree + r.txQueue.length := by
    change s.txFree + 1 + rest.length = _
    rw [queue, List.length_cons]
    omega
  have sent : s.Rewrites v c r q none :=
    .write before (tx := cell) (rx := (Nat.add_sub_cancel _ _).symm)
  unfold State.startData
  simp only [before, queue]
  split
  · rename_i drained
    obtain ⟨draining, rfl⟩ : r.phase = .draining ∧ rest = [] := by simpa using drained
    have closes := sent.trans (.beginClosing sent.after (Phase.live_of_sendsData sends)) (.inl rfl)
      (fun empty => .inr ⟨empty, rfl⟩)
    have form : { q with phase := .closing .normal, retryCount := 0, owed := q.owed.put .close true } =
        r.afterData s.settings.askMs [] := by
      rw [Record.afterData, if_pos ⟨draining, rfl⟩]
    rw [form] at closes
    have start := Start.data (p := p) runs free before eligible queue closes
    have passed := State.beginClosing_withCell (p := p) (State.record_setRecord_self s c (some q)) on
    let frame : Frame := .data (r.header c (s.circuit c).generation) r.nextSeq payload
    exact (congrArg (fun w : State => Start l s (w.startFrame l frame)) passed).mpr start
  · rename_i undrained
    have form : q = r.afterData s.settings.askMs rest := by
      rw [Record.afterData, if_neg (by simpa using undrained)]
    rw [form] at sent
    have start := Start.data (p := p) runs free before eligible queue sent
    exact start

theorem Start.startControl {rest : List CircuitNo} (runs : (s.link l).state ≠ .stopped)
    (free : (s.link l).onLine = none) (head : (s.link l).controlList = c :: rest) :
    Start l s (s.startControl l c rest) := by
  unfold State.startControl
  split
  · rename_i nothing
    exact .drops runs head (by simp [nothing])
  · rename_i r before
    split
    · rename_i nothing
      rw [Owed.first_eq_none_iff] at nothing
      exact .drops runs head (fun q same => by rw [before] at same; cases same; exact nothing)
    · rename_i k first
      exact .control runs free head before first

theorem Start.boundary (l : LinkNo) (s : State) : Start l s (s.boundary l) := by
  unfold State.boundary
  split
  · rename_i busy; exact .busy busy
  · rename_i running
    simp only [not_or, Bool.not_eq_true, Option.isSome_eq_false_iff, Option.isNone_iff_eq_none] at running
    obtain ⟨runs, free⟩ := running
    unfold State.choose
    split
    · exact .hello runs free
    · rename_i hello
      split
      · rename_i head; exact .startControl runs free head
      · rename_i control
        split
        · rename_i head; exact .answer runs free head
        · rename_i answers
          split
          · rename_i choice; exact .startData runs free choice
          · rename_i nothing; exact .idle (Bool.eq_false_iff.2 hello) control answers nothing

/-! ### The ROOM rule -/

/-- One ROOM notice (R99). -/
def RoomStep (s t : State) : Prop :=
  ∃ c r, r.roomWanted = true ∧ s.Rewrites t c r { r with roomWanted := false } (some .room)

theorem State.roomNotice_steps (s : State) (c : CircuitNo) : ReflTransGen RoomStep s (s.roomNotice c) := by
  unfold State.roomNotice
  split
  · exact .refl
  · rename_i r before
    split
    · rename_i wants
      have wanted : r.roomWanted = true := by
        rw [Bool.and_eq_true] at wants
        exact wants.1
      exact .single ⟨c, r, wanted, (State.Rewrites.setRecord before).post .room⟩
    · exact .refl

theorem State.roomNotices_steps (s : State) : ReflTransGen RoomStep s s.roomNotices :=
  State.forCircuits_moves (fun c t => t.roomNotice_steps c) s

theorem State.afterReturns_steps (b s : State) : ReflTransGen RoomStep s (State.afterReturns b s) := by
  unfold State.afterReturns
  split
  · exact s.roomNotices_steps
  · exact .refl

theorem RoomStep.move (h : RoomStep s t) : ∃ l, Move l s t := by
  obtain ⟨c, r, wanted, rewrites⟩ := h
  exact ⟨r.link, .tweak (.record rfl (.hasRoom wanted) ⟨rfl, fun m h => ⟨h, rfl⟩, id⟩ rewrites)⟩

/-! ### How a law is kept -/

/-- A law that everything an event is made of keeps. -/
structure Kept (P : State → Prop) : Prop where
  window : ∀ {s : State} (w : Outside), P s → P (s.withOutside w)
  move : ∀ {l : LinkNo} {s t : State}, Move l s t → P s → P t
  once : ∀ {i : Instr} {l : LinkNo} {s t : State}, Once i l s t → P s → P t
  start : ∀ {l : LinkNo} {s t : State}, Start l s t → P s → P t
  release : ∀ {s t : State} {c : CircuitNo} {r : Record}, r.phase.live = false → s.Frees t c r → P s → P t
  services : ∀ {s : State} {es : List Service}, ServiceChange s es → P s → P { s with services := es }
  cleared : ∀ {s : State}, P s → P s.cleared
  resets : ∀ {s : State} (rxd : Vector LineLevel 4), P s → P (s.resetn rxd)
  released : ∀ {s : State}, s.powering = false → P s → P { s with held := false }
  rises : ∀ {s : State} (rxd : Vector LineLevel 4), P s → P (s.enterPowerHold rxd)
  powers : ∀ {s : State} (low : Bool) (rxd : Vector LineLevel 4), P s → P (s.endPowerHold low rxd)

/-- What every step of a row keeps, the row keeps. -/
theorem kept_of_row {P : State → Prop} {R : State → State → Prop} (h : ∀ {s t}, R s t → P s → P t)
    (row : ReflTransGen R s t) (hs : P s) : P t := by
  induction row with
  | refl => exact hs
  | tail _ last ih => exact h last ih

theorem State.boundaries_keep {P : State → Prop} (h : ∀ {l : LinkNo} {s t : State}, Start l s t → P s → P t)
    (hs : P s) : P s.boundaries :=
  List.foldlRecOn allLinks _ hs fun _ hb l _ => h (.boundary l _) hb

namespace Kept

variable {P : State → Prop}

theorem claim (h : Kept P) (claim : Claim i l s t) (hs : P s) : P t := by
  cases claim with
  | moves moves => exact kept_of_row h.move moves hs
  | once before once after => exact kept_of_row h.move after (h.once once (kept_of_row h.move before hs))

theorem afterReturns (h : Kept P) (b : State) (hs : P s) : P (State.afterReturns b s) :=
  kept_of_row (fun step => step.move.elim fun _ => h.move) (State.afterReturns_steps b s) hs

theorem finishClaim (h : Kept P) (b : State) (hs : P s) : P (State.finishClaim b s l) :=
  h.start (.boundary l _) (h.afterReturns b hs)

theorem event (h : Kept P) (event : Event i s t) (hs : P s) : P t := by
  cases event with
  | skip => exact hs
  | window w => exact h.window w hs
  | quiet l w _ _ tweaks => exact h.window w (kept_of_row (fun step => h.move (.tweak step)) tweaks hs)
  | claim l b w _ _ claim tweaks =>
    exact h.window w (kept_of_row (fun step => h.move (.tweak step)) tweaks
      (h.finishClaim b (h.claim claim hs)))
  | release w _ _ ended frees => exact h.window w (h.release ended frees hs)
  | services w _ _ change => exact h.window w (h.services change hs)
  | withdraws number b w _ _ moves =>
    exact h.window w (State.boundaries_keep h.start (h.afterReturns b
      (h.services (.removes number) (kept_of_row (fun step => step.elim fun _ => h.move) moves hs))))
  | clears w => exact h.window w (State.boundaries_keep h.start (h.cleared hs))
  | resets lowNs rxd => exact h.resets rxd hs
  | released _ byPin => exact h.released byPin hs
  | rises rxd => exact h.rises rxd hs
  | powers low rxd => exact h.powers low rxd hs

end Kept

/-- A step takes the event at the front of the queue, with the queue's rest (R1; log entry 1). -/
theorem event_of_step (h : step s = .next t) :
    t = s ∨ ∃ i rest, Event i { s with pending := rest } t := by
  unfold step at h
  split at h
  · cases h; exact .inl rfl
  · rename_i i rest _
    exact .inr ⟨i, rest, event_of_exec h⟩

theorem Kept.step {P : State → Prop} (h : Kept P) (next : step s = .next t) (hs : P s) : P t := by
  rcases event_of_step next with rfl | ⟨i, rest, event⟩
  · exact hs
  · exact h.event event (h.window { s.outside with pending := rest } hs)

/-! ### Laws of the tables -/

/-- A law that no field of a link and no transmit cell is part of, kept by every change of a record and of the
notices. -/
structure KeptByTables (P : State → Prop) : Prop where
  setLink : ∀ {s : State} (l : LinkNo) (x : Link), P s → P (s.setLink l x)
  txFree : ∀ {s : State} (n : Nat), P s → P { s with txFree := n }
  postLink : ∀ {s : State} (l : LinkNo) (k : LinkNotice), P s → P (s.postLink l k)
  postCircuit : ∀ {s : State} {c : CircuitNo} (k : CircuitNotice), s.record c ≠ none → P s → P (s.postCircuit c k)
  collectCircuit : ∀ {s : State} {c : CircuitNo} {rest : List Source}, s.noticeList = .circuit c :: rest →
    P s → P { s with circuitNotices := s.circuitNotices.set c { }, noticeList := rest }
  collectLink : ∀ {s : State} {l : LinkNo} {rest : List Source}, s.noticeList = .link l :: rest →
    P s → P { s with linkNotices := s.linkNotices.set l { }, noticeList := rest }
  record : ∀ {s t : State} {c : CircuitNo} {r r' : Record} {k : Option CircuitNotice},
    r.Change r' → s.Rewrites t c r r' k → P s → P t

namespace KeptByTables

variable {P : State → Prop}

theorem clearLine (h : KeptByTables P) (hs : P s) : P (s.clearLine l) := by
  unfold State.clearLine
  split
  · exact hs
  · dsimp only
    split
    · exact h.txFree _ (h.setLink _ _ hs)
    · exact h.setLink _ _ hs

theorem cutFrame (h : KeptByTables P) (hs : P s) : P (s.cutFrame l) := by
  unfold State.cutFrame
  split
  · exact hs
  · exact h.setLink _ _ (h.clearLine hs)

theorem linkDown (h : KeptByTables P) (cause : DownCause) (hs : P s) : P (s.linkDown l cause) :=
  h.postLink _ _ (h.setLink _ _ hs)

theorem move (h : KeptByTables P) (move : Move l s t) (hs : P s) : P t := by
  cases move with
  | tweak tweak =>
    cases tweak with
    | link => exact h.setLink _ _ hs
    | post k => exact h.postLink _ k hs
    | record _ change _ rewrites => exact h.record change rewrites hs
    | collectCircuit head => exact h.collectCircuit head hs
    | collectLink head => exact h.collectLink head hs
  | work => exact h.setLink _ _ hs
  | record _ change _ _ rewrites => exact h.record change rewrites hs
  | opens _ before _ steps record =>
    refine h.postCircuit _ (by simp [record]) (kept_of_row (fun step hs => ?_) steps hs)
    obtain ⟨_, _, _, _, _, change, _, rewrites⟩ := step
    exact h.record change rewrites hs
  | answer => exact h.setLink _ _ hs
  | loses cause => exact h.setLink _ _ (h.linkDown cause hs)
  | stops cause => exact h.setLink _ _ (h.cutFrame (h.linkDown cause hs))
  | halts => exact h.setLink _ _ (h.cutFrame hs)
  | endsFrame => exact h.setLink _ _ (h.clearLine hs)

end KeptByTables

end Sys2Proof.Machine
end

section
/-! PROOFS. The notice list and the pending sets (R152, R153). -/

namespace Sys2Proof.Machine

set_option Elab.async false

open Relation (ReflTransGen)

variable {s t u v : State} {l : LinkNo} {c : CircuitNo} {r : Record} {i : Instr}

/-- The laws of the notice list. -/
def NoticeLaws (s : State) : Prop := NoticeListLaw s ∧ PendingLaw s

theorem NoticeListLaw.congr (h : NoticeListLaw s) (list : t.noticeList = s.noticeList)
    (circuits : t.circuitNotices = s.circuitNotices) (links : t.linkNotices = s.linkNotices) :
    NoticeListLaw t := by
  unfold NoticeListLaw at *
  rw [list, circuits, links]
  exact h

theorem NoticeLaws.congr (h : NoticeLaws s) (list : t.noticeList = s.noticeList)
    (circuits : t.circuitNotices = s.circuitNotices) (links : t.linkNotices = s.linkNotices)
    (free : ∀ d, t.record d = none → s.record d = none) : NoticeLaws t :=
  ⟨h.1.congr list circuits links, fun d hd => by rw [circuits]; exact h.2 d (free d hd)⟩

theorem pending_set (v : Vector CircuitPending 64) (c d : CircuitNo) (p : CircuitPending) :
    (v.set c p)[d] = if d = c then p else v[d] := by
  simp only [Fin.getElem_fin, Vector.getElem_set, Fin.ext_iff, eq_comm]

theorem linkPending_set (v : Vector LinkPending 4) (l m : LinkNo) (p : LinkPending) :
    (v.set l p)[m] = if m = l then p else v[m] := by
  simp only [Fin.getElem_fin, Vector.getElem_set, Fin.ext_iff, eq_comm]

theorem State.notify_pending {k : Option CircuitNotice} {d : CircuitNo} (other : d ≠ c) :
    (s.notify c k).circuitNotices[d] = s.circuitNotices[d] := by
  cases k with
  | none => rfl
  | some k => simp only [State.notify, State.postCircuit, pending_set, if_neg other]

theorem NoticeListLaw.notify (h : NoticeListLaw s) (c : CircuitNo) (k : Option CircuitNotice) :
    NoticeListLaw (s.notify c k) := by
  cases k with
  | none => exact h
  | some k => exact noticeListLaw_postCircuit h c k

/-- The pending law after a notice for a circuit that is not FREE afterwards. -/
theorem PendingLaw.notify {k : Option CircuitNotice} (h : PendingLaw s)
    (circuits : t.circuitNotices = (s.notify c k).circuitNotices) (holds : t.record c ≠ none)
    (free : ∀ d, d ≠ c → t.record d = none → s.record d = none) : PendingLaw t := by
  intro d hd
  have other : d ≠ c := fun same => holds (same ▸ hd)
  rw [circuits, State.notify_pending other]
  exact h d (free d other hd)

theorem NoticeLaws.rewrites {r' : Record} {k : Option CircuitNotice} (h : NoticeLaws s)
    (rewrites : s.Rewrites t c r r' k) : NoticeLaws t := by
  refine ⟨(h.1.notify c k).congr rewrites.noticeList rewrites.circuitNotices (by
    rw [rewrites.linkNotices]; cases k <;> rfl), h.2.notify rewrites.circuitNotices (by simp [rewrites.after]) ?_⟩
  intro d other free
  rwa [rewrites.record, if_neg other] at free

theorem NoticeLaws.allocates {a : Allocation} {o : Owed} {k : Option CircuitNotice} (h : NoticeLaws s)
    (allocates : s.Allocates t c a o k) : NoticeLaws t := by
  refine ⟨(h.1.notify c k).congr allocates.noticeList allocates.circuitNotices (by
    rw [allocates.linkNotices]; cases k <;> rfl),
    h.2.notify allocates.circuitNotices (by simp [allocates.record]) ?_⟩
  intro d other free
  rwa [allocates.record, if_neg other] at free

theorem NoticeLaws.frees (h : NoticeLaws s) (frees : s.Frees t c r) : NoticeLaws t := by
  refine ⟨(noticeListLaw_dropNotices h.1 c).congr frees.noticeList frees.circuitNotices frees.linkNotices, ?_⟩
  intro d free
  rw [frees.circuitNotices]
  simp only [State.dropNotices, pending_set]
  split
  · rfl
  · rename_i other
    rw [frees.record, if_neg other] at free
    exact h.2 d free

theorem NoticeLaws.collectCircuit {rest : List Source} (h : NoticeLaws s)
    (head : s.noticeList = .circuit c :: rest) :
    NoticeLaws { s with circuitNotices := s.circuitNotices.set c { }, noticeList := rest } := by
  obtain ⟨⟨once, circuits, links⟩, free⟩ := h
  rw [head, List.nodup_cons] at once
  refine ⟨⟨once.2, fun d => ?_, fun m => ?_⟩, fun d hd => ?_⟩
  · have before := circuits d
    rw [head, List.mem_cons] at before
    simp only [pending_set]
    split
    · rename_i same
      simp [same, once.1, CircuitPending.isEmpty]
    · rename_i other
      rw [← before]
      simp [other]
  · have before := links m
    rw [head, List.mem_cons] at before
    rw [← before]
    simp
  · simp only [pending_set]
    split
    · rfl
    · exact free d hd

theorem NoticeLaws.collectLink {rest : List Source} (h : NoticeLaws s)
    (head : s.noticeList = .link l :: rest) :
    NoticeLaws { s with linkNotices := s.linkNotices.set l { }, noticeList := rest } := by
  obtain ⟨⟨once, circuits, links⟩, free⟩ := h
  rw [head, List.nodup_cons] at once
  refine ⟨⟨once.2, fun d => ?_, fun m => ?_⟩, free⟩
  · have before := circuits d
    rw [head, List.mem_cons] at before
    rw [← before]
    simp
  · have before := links m
    rw [head, List.mem_cons] at before
    simp only [linkPending_set]
    split
    · rename_i same
      simp [same, once.1, LinkPending.isEmpty]
    · rename_i other
      rw [← before]
      simp [other]

/-- Nothing pending anywhere, and an empty notice list (R162). -/
theorem NoticeLaws.of_empty (list : s.noticeList = []) (circuits : s.circuitNotices = Vector.replicate 64 { })
    (links : s.linkNotices = Vector.replicate 4 { }) : NoticeLaws s := by
  refine ⟨⟨by simp [list], fun d => ?_, fun m => ?_⟩, fun d _ => ?_⟩
  · simp [list, circuits, CircuitPending.isEmpty]
  · simp [list, links, LinkPending.isEmpty]
  · simp [circuits, CircuitPending.isEmpty]

theorem keptByTables_noticeLaws : KeptByTables NoticeLaws where
  setLink _ _ h := h
  txFree _ h := h
  postLink l k h := ⟨noticeListLaw_postLink h.1 l k, h.2⟩
  postCircuit k holds h :=
    ⟨noticeListLaw_postCircuit h.1 _ k, h.2.notify (k := some k) rfl holds fun _ _ => id⟩
  collectCircuit head h := h.collectCircuit head
  collectLink head h := h.collectLink head
  record _ rewrites h := h.rewrites rewrites

theorem NoticeLaws.once (once : Once i l s t) (h : NoticeLaws s) : NoticeLaws t := by
  cases once with
  | allocates _ _ first _ allocates =>
    exact NoticeLaws.allocates (kept_of_row keptByTables_noticeLaws.move first h) allocates
  | frees _ _ frees => exact h.frees frees
  | accepts _ _ _ rewrites => exact h.rewrites rewrites
  | offers _ _ rewrites => exact h.rewrites rewrites
  | delivers _ _ _ _ rewrites => exact h.rewrites rewrites

theorem NoticeLaws.start (start : Start l s t) (h : NoticeLaws s) : NoticeLaws t := by
  cases start with
  | busy => exact h
  | idle => exact h
  | drops => exact h
  | hello => exact h
  | control _ _ _ before =>
    refine h.congr rfl rfl rfl fun d free => ?_
    change State.record (State.setRecord s _ _) d = none at free
    rw [State.record_setRecord] at free
    split at free
    · cases free
    · exact free
  | answer => exact h
  | data _ _ _ _ _ rewrites =>
    have sent := h.rewrites rewrites
    exact sent

theorem kept_noticeLaws : Kept NoticeLaws where
  window _ h := h
  move := keptByTables_noticeLaws.move
  once := NoticeLaws.once
  start := NoticeLaws.start
  release _ frees h := h.frees frees
  services _ h := h
  cleared _ := .of_empty rfl rfl rfl
  resets _ _ := .of_empty rfl rfl rfl
  released _ h := h
  rises _ _ := .of_empty rfl rfl rfl
  powers _ _ _ := .of_empty rfl rfl rfl

/-- Settles O50: every form of an event keeps the laws (`kept_noticeLaws`). -/
theorem stepsKeepTheNoticeLaws : Obligations.StepsKeepTheNoticeLaws := by
  unfold Obligations.StepsKeepTheNoticeLaws
  exact fun s t h next => kept_noticeLaws.step next h

end Sys2Proof.Machine
end

section
/-! PROOFS. The form of a record by its state (R12, R61, R89). -/

namespace Sys2Proof.Machine

set_option Elab.async false

open Relation (ReflTransGen)

variable {s t u v : State} {l : LinkNo} {c : CircuitNo} {r r' : Record} {i : Instr}

/-- One record agrees with its state. -/
structure Record.Formed (r : Record) : Prop where
  kinds : r.owedKinds = true
  presence : r.presence = true
  asking : r.askTimer.isSome = r.blocked

/-- A record that owes a kind more that its state allows keeps its form. -/
theorem Record.Formed.owes {k : ControlKind} (h : r.Formed) (may : r.mayOwe k) :
    Record.Formed { r with owed := r.owed.put k true } := by
  obtain ⟨kinds, presence, asking⟩ := h
  refine ⟨?_, ?_, asking⟩
  · cases k with
    | accept =>
      have opened : r.phase = .opened := may
      simpa [Record.owedKinds, opened, Owed.put] using kinds
    | grant =>
      have carries : r.phase.carriesData = true := may
      cases phase : r.phase <;> simp_all [Record.owedKinds, Owed.put, Phase.carriesData]
    | closed =>
      obtain ⟨ended, peer⟩ : r.phase.live = false ∧ r.peer.isSome = true := may
      cases phase : r.phase <;> simp_all [Record.owedKinds, Owed.put, Phase.live]
    | ask => exact may.elim
    | openRequest => exact may.elim
    | close => exact may.elim
  · cases k with
    | accept =>
      have opened : r.phase = .opened := may
      simpa [Record.presence, opened] using presence
    | grant =>
      have carries : r.phase.carriesData = true := may
      cases phase : r.phase <;> simp_all [Record.presence, Owed.put, Phase.carriesData]
    | closed =>
      obtain ⟨ended, peer⟩ : r.phase.live = false ∧ r.peer.isSome = true := may
      cases phase : r.phase <;> simp_all [Record.presence, Phase.live]
    | ask => exact may.elim
    | openRequest => exact may.elim
    | close => exact may.elim

theorem Record.Formed.sends {n : Nat} (h : r.Formed) (sends : r.phase.sendsData = true)
    (asking : r.askTimer.isSome = true) :
    Record.Formed { r with askTimer := some n, owed := r.owed.put .ask true } := by
  refine ⟨?_, ?_, h.asking ▸ asking.symm⟩
  · have kinds := h.kinds
    cases phase : r.phase <;> simp_all [Record.owedKinds, Owed.put, Phase.sendsData]
  · have presence := h.presence
    cases phase : r.phase <;> simp_all [Record.presence, Phase.sendsData]

theorem Record.Formed.ends {cause : EndCause} {detail : Option Byte} {o : Owed} (h : r.Formed)
    (fits : r.EndFits cause o) : Record.Formed { r.atEnd cause detail with owed := o } := by
  refine ⟨?_, ?_, rfl⟩
  · have kinds := fits h.kinds h.presence
    simpa [Record.owedKinds, Record.atEnd] using kinds
  · rfl

theorem Record.Formed.opens {n : Nat} {peer : Peer} {limit : Word} (h : r.Formed) (calling : r.phase = .calling) :
    (r.opened n peer limit).Formed := by
  obtain ⟨kinds, presence, asking⟩ := h
  simp only [Record.owedKinds, calling] at kinds
  simp only [Record.presence, calling] at presence
  refine ⟨?_, ?_, Record.settleAsk_askTimer _ _ _ asking rfl⟩
  · simp_all [Record.opened, Record.settleAsk, Record.owedKinds, Owed.put]
  · simp_all [Record.opened, Record.settleAsk, Record.presence]

theorem Record.Formed.queues {n : Nat} {payload : List Byte} (h : r.Formed)
    (phase : r.phase = .calling ∨ r.phase = .opened) :
    (Record.settleAsk n r { r with txQueue := r.txQueue ++ [payload] }).Formed := by
  obtain ⟨kinds, presence, asking⟩ := h
  refine ⟨kinds, ?_, Record.settleAsk_askTimer _ _ _ asking rfl⟩
  rcases phase with phase | phase
  · simpa [Record.settleAsk, Record.presence, Record.untouched, phase] using presence
  · simpa [Record.settleAsk, Record.presence, phase] using presence

theorem Record.Change.formed (change : r.Change r') (h : r.Formed) : r'.Formed := by
  have ⟨kinds, presence, asking⟩ := h
  cases change with
  | owes may => exact h.owes may
  | asks sends asking => exact h.sends sends asking
  | repeats phase =>
    rcases phase with ⟨phase, rfl⟩ | ⟨⟨x, phase⟩, rfl⟩
    · refine ⟨?_, ?_, asking⟩
      · simpa [Record.owedKinds, phase, Owed.put] using kinds
      · simp_all [Record.presence, Record.untouched]
    · refine ⟨?_, ?_, asking⟩
      · simpa [Record.owedKinds, phase, Owed.put] using kinds
      · simp_all [Record.presence]
  | answers offered =>
    refine ⟨?_, ?_, ?_⟩
    · simp_all [Record.owedKinds, Owed.put, Owed.isEmpty]
    · simp_all [Record.presence]
    · simp_all [Record.presence, Record.blocked]
  | closes phase empty =>
    refine ⟨?_, ?_, ?_⟩
    · simp_all [Record.owedKinds, Owed.put]
    · simp_all [Record.presence]
    · simp_all [Record.blocked, Phase.sendsData]
  | drains phase queued =>
    refine ⟨?_, ?_, ?_⟩
    · simp_all [Record.owedKinds]
    · simp_all [Record.presence]
    · rw [asking, Record.blocked, phase]
      rfl
  | amends => exact ⟨kinds, presence, asking⟩
  | wantsRoom phase =>
    refine ⟨kinds, ?_, asking⟩
    rcases phase with phase | phase
    · simpa [Record.presence, Record.untouched, phase] using presence
    · simpa [Record.presence, phase] using presence
  | hasRoom wanted =>
    refine ⟨kinds, ?_, asking⟩
    cases phase : r.phase <;> simp_all [Record.presence, Record.untouched]
  | queues phase => exact h.queues phase
  | breaks sends =>
    refine ⟨?_, ?_, rfl⟩
    · cases phase : r.phase <;> simp_all [Record.owedKinds, Owed.put, Phase.sendsData]
    · cases phase : r.phase <;> simp_all [Record.presence, Phase.sendsData]
  | worsens phase =>
    refine ⟨?_, ?_, ?_⟩
    · simpa [Record.owedKinds, phase] using kinds
    · simpa [Record.presence, phase] using presence
    · simpa [Record.blocked, phase, Phase.sendsData] using asking
  | opens calling => exact h.opens calling
  | ends _ fits => exact h.ends fits
  | forgets ended =>
    refine ⟨?_, ?_, asking⟩
    · cases phase : r.phase <;> simp_all [Record.owedKinds, Phase.live]
    · cases phase : r.phase <;> simp_all [Record.presence, Phase.live]

theorem Record.Formed.acceptData {sequence : Byte} {payload : List Byte} (h : r.Formed)
    (carries : r.phase.carriesData = true) : (r.acceptData sequence payload).Formed := by
  obtain ⟨kinds, presence, asking⟩ := h
  refine ⟨kinds, ?_, asking⟩
  cases phase : r.phase <;> simp_all [Record.presence, Record.acceptData, Phase.carriesData]

theorem Record.Formed.offerLimit {n : Nat} {limit : Word} (h : r.Formed) (carries : r.phase.carriesData = true) :
    (r.offerLimit n limit).Formed := by
  obtain ⟨kinds, presence, asking⟩ := h
  unfold Record.offerLimit
  split
  · refine ⟨kinds, ?_, Record.settleAsk_askTimer _ _ _ asking rfl⟩
    cases phase : r.phase <;> simp_all [Record.presence, Record.settleAsk, Phase.carriesData]
  · exact ⟨kinds, presence, asking⟩

theorem Record.Formed.delivers {rest : List RxItem} (h : r.Formed)
    (phase : r.phase ≠ .calling ∧ r.phase ≠ .offered) : Record.Formed { r with rxQueue := rest } := by
  obtain ⟨kinds, presence, asking⟩ := h
  refine ⟨kinds, ?_, asking⟩
  cases state : r.phase <;> simp_all [Record.presence]

theorem Allocation.Fresh.formed {a : Allocation} {o : Owed} (h : a.Fresh o) :
    Record.Formed { a.record with owed := o } := by
  cases h with
  | call phase direction peer credit hold =>
    exact ⟨by simp [Record.owedKinds, Allocation.record, phase],
      by simp [Record.presence, Record.untouched, Allocation.record, phase, direction, peer, credit, hold],
      by simp [Record.blocked, Allocation.record, phase]⟩
  | auto phase direction peer hold =>
    exact ⟨by simp [Record.owedKinds, Allocation.record, phase],
      by simp [Record.presence, Allocation.record, phase, peer, hold],
      by simp [Record.blocked, Allocation.record]⟩
  | hold phase direction peer hold =>
    exact ⟨by simp [Record.owedKinds, Allocation.record, phase, Owed.isEmpty],
      by simp [Record.presence, Record.untouched, Allocation.record, phase, direction, peer, hold],
      by simp [Record.blocked, Allocation.record]⟩

theorem Record.owedKinds_put_false {k : ControlKind} (kinds : r.owedKinds = true) :
    Record.owedKinds { r with owed := r.owed.put k false } = true := by
  cases phase : r.phase with
  | ended =>
    simp only [Record.owedKinds, phase, Bool.and_eq_true, Bool.or_eq_true, Bool.not_eq_true'] at kinds ⊢
    cases k <;> simp_all [Owed.put]
    all_goals tauto
  | _ => cases k <;> simp_all [Record.owedKinds, Owed.put, Owed.isEmpty]

theorem Record.afterControl_askTimer (r : Record) (n : Nat) (k : ControlKind) :
    (r.afterControl n k).askTimer = r.askTimer ∧ (r.afterControl n k).blocked = r.blocked
      ∧ (r.afterControl n k).owedKinds = r.owedKinds := by
  unfold Record.afterControl
  cases k with
  | close => dsimp only; split <;> exact ⟨rfl, rfl, rfl⟩
  | _ => exact ⟨rfl, rfl, rfl⟩

/-- A frame's start leaves the fields in the form of the state, for the kinds that the state may owe. -/
theorem Record.presence_afterFrame {n : Nat} {k : ControlKind} (kinds : r.owedKinds = true)
    (presence : r.presence = true) (owed : r.owed.has k = true) : (r.afterFrame n k).presence = true := by
  cases k with
  | accept =>
    cases phase : r.phase <;>
      simp_all [Record.afterFrame, Record.afterControl, Record.presence, Record.untouched, Owed.put, Owed.has]
  | ask =>
    cases phase : r.phase <;>
      simp_all [Record.afterFrame, Record.afterControl, Record.presence, Record.untouched, Owed.put, Owed.has]
  | closed =>
    cases phase : r.phase <;>
      simp_all [Record.afterFrame, Record.afterControl, Record.presence, Record.untouched, Owed.put, Owed.has]
  | grant =>
    cases phase : r.phase <;>
      simp_all [Record.afterFrame, Record.afterControl, Record.owedKinds, Record.presence, Owed.put, Owed.has,
        Owed.isEmpty]
  | openRequest =>
    cases phase : r.phase <;>
      simp_all [Record.afterFrame, Record.afterControl, Record.owedKinds, Record.presence, Record.untouched,
        Owed.put, Owed.has, Owed.isEmpty]
  | close =>
    cases phase : r.phase <;>
      simp_all [Record.afterFrame, Record.afterControl, Record.owedKinds, Record.presence, Owed.put, Owed.has,
        Owed.isEmpty]

theorem Record.Formed.afterFrame {n : Nat} {k : ControlKind} (h : r.Formed) (owed : r.owed.has k = true) :
    (r.afterFrame n k).Formed := by
  obtain ⟨kinds, presence, asking⟩ := h
  obtain ⟨timer, blocked, owedKinds⟩ :=
    Record.afterControl_askTimer { r with owed := r.owed.put k false } n k
  refine ⟨owedKinds.trans (Record.owedKinds_put_false kinds), Record.presence_afterFrame kinds presence owed, ?_⟩
  rw [Record.afterFrame, timer, blocked]
  exact asking

theorem Record.Formed.afterData {n : Nat} {payload : List Byte} {rest : List (List Byte)} (h : r.Formed)
    (sends : r.phase.sendsData = true) (queue : r.txQueue = payload :: rest) : (r.afterData n rest).Formed := by
  obtain ⟨kinds, presence, asking⟩ := h
  have settled := Record.settleAsk_askTimer n r
    { r with txQueue := rest, nextSeq := r.nextSeq + 1, sent := r.sent + 1 } asking rfl
  unfold Record.afterData
  split
  · rename_i drained
    obtain ⟨draining, rfl⟩ := drained
    refine ⟨?_, ?_, ?_⟩
    · simp_all [Record.owedKinds, Record.settleAsk, Owed.put]
    · simp_all [Record.presence, Record.settleAsk]
    · simp [Record.blocked, Record.settleAsk, draining, Phase.sendsData]
  · rename_i undrained
    refine ⟨kinds, ?_, settled⟩
    cases phase : r.phase <;> simp_all [Phase.sendsData, Record.presence, Record.settleAsk]

/-! ### The law of every record -/

theorem RecordLaw.formed (h : RecordLaw s) (before : s.record c = some r) : r.Formed :=
  let ⟨kinds, presence, asking⟩ := h c r before
  ⟨kinds, presence, asking⟩

/-- The law after one record is written. -/
theorem RecordLaw.written (h : RecordLaw s) (record : ∀ d, t.record d = if d = c then some r' else s.record d)
    (formed : r'.Formed) : RecordLaw t := by
  intro d q hq
  rw [record] at hq
  split at hq
  · cases hq
    exact ⟨formed.kinds, formed.presence, formed.asking⟩
  · exact h d q hq

theorem RecordLaw.rewrites {k : Option CircuitNotice} (h : RecordLaw s) (rewrites : s.Rewrites t c r r' k)
    (formed : r.Formed → r'.Formed) : RecordLaw t :=
  h.written rewrites.record (formed (h.formed rewrites.before))

theorem keptByTables_recordLaw : KeptByTables RecordLaw where
  setLink _ _ h := h
  txFree _ h := h
  postLink _ _ h := h
  postCircuit _ _ h := h
  collectCircuit _ h := h
  collectLink _ h := h
  record change rewrites h := RecordLaw.rewrites h rewrites change.formed

theorem RecordLaw.frees (h : RecordLaw s) (frees : s.Frees t c r) : RecordLaw t := by
  intro d q hq
  rw [frees.record] at hq
  split at hq
  · cases hq
  · exact h d q hq

theorem RecordLaw.once (once : Once i l s t) (h : RecordLaw s) : RecordLaw t := by
  cases once with
  | allocates _ _ first _ allocates =>
    exact RecordLaw.written (kept_of_row keptByTables_recordLaw.move first h) allocates.record
      allocates.fresh.formed
  | frees _ _ frees => exact RecordLaw.frees h frees
  | accepts _ carries _ rewrites => exact RecordLaw.rewrites h rewrites fun formed => formed.acceptData carries
  | offers _ carries rewrites => exact RecordLaw.rewrites h rewrites fun formed => formed.offerLimit carries
  | delivers _ _ phase _ rewrites => exact RecordLaw.rewrites h rewrites fun formed => formed.delivers phase

theorem Record.sends_of_eligible (h : r.eligible l = true) : r.link = l ∧ r.phase.sendsData = true := by
  simp only [Record.eligible, Bool.and_eq_true, decide_eq_true_eq] at h
  exact ⟨h.1.1.1, h.1.1.2⟩

theorem RecordLaw.start (start : Start l s t) (h : RecordLaw s) : RecordLaw t := by
  cases start with
  | busy => exact h
  | idle => exact h
  | drops => exact h
  | hello => exact h
  | control _ _ _ before first =>
    exact RecordLaw.written h (fun d => s.record_setRecord _ d _)
      ((RecordLaw.formed h before).afterFrame (Owed.has_first first))
  | answer => exact h
  | data _ _ _ eligible queue rewrites =>
    have sent := RecordLaw.rewrites h rewrites fun formed =>
      formed.afterData (Record.sends_of_eligible eligible).2 queue
    exact sent

theorem RecordLaw.of_free (h : ∀ c, s.record c = none) : RecordLaw s := by
  intro c r hr
  rw [h c] at hr
  cases hr

theorem record_freeAll (h : s.circuits = freeAll u.circuits) (c : CircuitNo) : s.record c = none := by
  simp [State.record, State.circuit, h, freeAll]

theorem record_reset (h : s.circuits = State.reset.circuits) (c : CircuitNo) : s.record c = none := by
  simp [State.record, State.circuit, h, State.reset, Circuit.reset]

theorem kept_recordLaw : Kept RecordLaw where
  window _ h := h
  move := keptByTables_recordLaw.move
  once := RecordLaw.once
  start := RecordLaw.start
  release _ frees h := RecordLaw.frees h frees
  services _ h := h
  cleared _ := .of_free (record_freeAll rfl)
  resets _ _ := .of_free (record_freeAll rfl)
  released _ h := h
  rises _ _ := .of_free (record_freeAll rfl)
  powers _ _ _ := .of_free (record_reset rfl)

/-- Settles O56: every form of an event keeps the form of each record (`kept_recordLaw`). -/
theorem stepsKeepRecordsInTheFormOfTheirState : Obligations.StepsKeepRecordsInTheFormOfTheirState := by
  unfold Obligations.StepsKeepRecordsInTheFormOfTheirState
  exact fun s t h next => kept_recordLaw.step next h

end Sys2Proof.Machine
end

section
/-! PROOFS. Sums over the records and the links, and the law of the pools (R73, R74, R95). -/

namespace Sys2Proof.Machine

set_option Elab.async false

open Relation (ReflTransGen)

variable {s t u v : State} {l : LinkNo} {c : CircuitNo} {r r' : Record} {i : Instr}

/-! ### Sums with one summand changed -/

theorem finRange_sum_changed {n : Nat} {f g : Fin n → Nat} {c : Fin n} (h : ∀ d, d ≠ c → g d = f d) :
    ((List.finRange n).map g).sum + f c = ((List.finRange n).map f).sum + g c := by
  have others : ∑ d ∈ Finset.univ.erase c, g d = ∑ d ∈ Finset.univ.erase c, f d :=
    Finset.sum_congr rfl fun d hd => h d (Finset.ne_of_mem_erase hd)
  have sum_g := Finset.add_sum_erase Finset.univ g (Finset.mem_univ c)
  have sum_f := Finset.add_sum_erase Finset.univ f (Finset.mem_univ c)
  rw [← Fin.sum_univ_def, ← Fin.sum_univ_def]
  omega

theorem length_filter_eq_sum {α : Type} (p : α → Bool) (xs : List α) :
    (xs.filter p).length = (xs.map fun x => (p x).toNat).sum := by
  induction xs with
  | nil => rfl
  | cons x xs ih => cases h : p x <;> simp [h, ih]; omega

/-- What a circuit adds to a sum over the records. -/
def State.share (s : State) (f : Record → Nat) (c : CircuitNo) : Nat :=
  match s.record c with
  | none => 0
  | some r => f r

theorem State.share_of_record {f : Record → Nat} (h : s.record c = some r) : s.share f c = f r := by
  simp [State.share, h]

theorem State.share_of_free {f : Record → Nat} (h : s.record c = none) : s.share f c = 0 := by
  simp [State.share, h]

theorem State.share_congr {f : Record → Nat} (h : t.record c = s.record c) : t.share f c = s.share f c := by
  unfold State.share
  rw [h]

theorem State.sumRecords_congr {f : Record → Nat} (h : ∀ d, t.record d = s.record d) :
    t.sumRecords f = s.sumRecords f := by
  simp only [State.sumRecords, h]

theorem State.sumRecords_changed {f : Record → Nat} (h : ∀ d, d ≠ c → t.record d = s.record d) :
    t.sumRecords f + s.share f c = s.sumRecords f + t.share f c :=
  finRange_sum_changed fun d hd => State.share_congr (h d hd)

theorem State.sumRecords_of_free {f : Record → Nat} (h : ∀ d, s.record d = none) : s.sumRecords f = 0 := by
  simp [State.sumRecords, h]

theorem State.Rewrites.sumRecords {f : Record → Nat} {k : Option CircuitNotice} (h : s.Rewrites t c r r' k) :
    t.sumRecords f + f r = s.sumRecords f + f r' := by
  have changed := State.sumRecords_changed (f := f) fun d hd => (h.record d).trans (if_neg hd)
  rwa [State.share_of_record h.before, State.share_of_record h.after] at changed

theorem State.Allocates.sumRecords {f : Record → Nat} {a : Allocation} {o : Owed} {k : Option CircuitNotice}
    (h : s.Allocates t c a o k) (after : t.record c = some r) : t.sumRecords f = s.sumRecords f + f r := by
  have changed := State.sumRecords_changed (f := f) fun d hd => (h.record d).trans (if_neg hd)
  rwa [State.share_of_free h.free, State.share_of_record after, Nat.add_zero] at changed

theorem State.Frees.sumRecords {f : Record → Nat} (h : s.Frees t c r) :
    t.sumRecords f + f r = s.sumRecords f := by
  have changed := State.sumRecords_changed (f := f) fun d hd => (h.record d).trans (if_neg hd)
  have after : t.record c = none := (h.record c).trans (if_pos rfl)
  rwa [State.share_of_record h.before, State.share_of_free after, Nat.add_zero] at changed

/-! ### The cells of the frames on the lines -/

/-- Whether the frame on a link's line holds a transmit cell (R95). -/
def Link.holdsCell (x : Link) : Bool :=
  match x.onLine with
  | none => false
  | some f => f.holdsCell

theorem State.cellsOnLines_eq (s : State) :
    s.cellsOnLines = (allLinks.map fun l => (s.link l).holdsCell.toNat).sum := length_filter_eq_sum _ _

theorem State.cellsOnLines_changed (h : ∀ m, m ≠ l → (t.link m).holdsCell = (s.link m).holdsCell) :
    t.cellsOnLines + (s.link l).holdsCell.toNat = s.cellsOnLines + (t.link l).holdsCell.toNat := by
  rw [State.cellsOnLines_eq, State.cellsOnLines_eq]
  exact finRange_sum_changed (f := fun m => (s.link m).holdsCell.toNat)
    (g := fun m => (t.link m).holdsCell.toNat) fun m hm => by rw [h m hm]

theorem State.cellsOnLines_congr (h : ∀ m, (t.link m).onLine = (s.link m).onLine) :
    t.cellsOnLines = s.cellsOnLines := by
  simp only [State.cellsOnLines, h]

theorem State.cellsOnLines_onLink (s : State) (l : LinkNo) (f : Link → Link) :
    (s.onLink l f).cellsOnLines + (s.link l).holdsCell.toNat =
      s.cellsOnLines + (f (s.link l)).holdsCell.toNat := by
  have changed := State.cellsOnLines_changed (s := s) (t := s.onLink l f) (l := l) fun m hm => by
    rw [State.link_onLink, if_neg hm]
  rwa [State.link_onLink_self] at changed

/-- The end of a frame's time on the line returns the cell that it held (R109, R111). -/
theorem State.clearLine_cells (s : State) (l : LinkNo) :
    (s.clearLine l).cellsOnLines + (s.clearLine l).txFree = s.cellsOnLines + s.txFree := by
  unfold State.clearLine
  split
  · rfl
  · rename_i f line
    have returned := s.cellsOnLines_onLink l fun x => { x with onLine := none }
    have none : Link.holdsCell { s.link l with onLine := none } = false := rfl
    have held : (s.link l).holdsCell = f.holdsCell := by simp [Link.holdsCell, line]
    rw [none, held] at returned
    dsimp only
    split
    · rename_i cell
      rw [cell] at returned
      simp only [Bool.toNat_true, Bool.toNat_false] at returned
      have one : ∀ n, (s.onLink l fun x => { x with onLine := Option.none }).cellsOnLines + (n + 1) =
          s.cellsOnLines + n := fun n => by omega
      exact one s.txFree
    · rename_i cell
      rw [Bool.eq_false_iff.2 cell] at returned
      simp only [Bool.toNat_false, Nat.add_zero] at returned
      exact congrArg (· + s.txFree) returned

/-! ### The laws of the pools -/

/-- The laws of the two pools. -/
structure PoolLaws (s : State) : Prop where
  reservation : ReservationLaw s
  cellsHeld : CellsHeldLaw s
  transmit : TransmitPoolLaw s
  queues : QueueStateLaw s

/-- The pools read the records, the frames on the lines, and their three totals. -/
theorem PoolLaws.congr (h : PoolLaws s) (record : ∀ d, t.record d = s.record d)
    (lines : t.cellsOnLines + t.txFree = s.cellsOnLines + s.txFree)
    (reservationTotal : t.reservationTotal = s.reservationTotal) (cellsHeld : t.cellsHeld = s.cellsHeld) :
    PoolLaws t := by
  refine ⟨?_, ?_, ?_, fun d q hq => h.queues d q (by rw [← record]; exact hq)⟩
  · rw [ReservationLaw, reservationTotal, State.sumRecords_congr record]
    exact h.reservation
  · rw [CellsHeldLaw, cellsHeld, State.sumRecords_congr record]
    exact h.cellsHeld
  · have before : _ = _ := h.transmit
    rw [TransmitPoolLaw, State.sumRecords_congr record]
    omega

/-- The transmit queue of a record that may hold none is empty (R12). -/
def Record.queueFits (r : Record) : Prop :=
  (r.phase ≠ .calling ∧ r.phase ≠ .opened ∧ r.phase ≠ .draining) → r.txQueue = []

theorem PoolLaws.rewrites {k : Option CircuitNotice} (h : PoolLaws s) (rewrites : s.Rewrites t c r r' k)
    (fits : r.queueFits → r'.queueFits) : PoolLaws t := by
  refine ⟨?_, ?_, ?_, fun d q hq => ?_⟩
  · have sum := rewrites.sumRecords (f := Record.quota)
    have quota := rewrites.quota
    obtain ⟨total, bound⟩ := h.reservation
    rw [ReservationLaw, rewrites.reservationTotal]
    exact ⟨by omega, bound⟩
  · have sum := rewrites.sumRecords (f := fun r => r.rxQueue.length)
    have total : _ = _ := h.cellsHeld
    have change := rewrites.cellsHeld
    unfold CellsHeldLaw
    omega
  · have sum := rewrites.sumRecords (f := fun r => r.txQueue.length)
    have total : _ = _ := h.transmit
    have change := rewrites.txFree
    have lines : t.cellsOnLines = s.cellsOnLines :=
      State.cellsOnLines_congr fun m => by rw [rewrites.link m]
    unfold TransmitPoolLaw
    omega
  · change t.record d = some q at hq
    rw [rewrites.record] at hq
    split at hq
    · cases hq
      exact fits (h.queues c r rewrites.before)
    · exact h.queues d q hq

theorem State.Allocates.after {a : Allocation} {o : Owed} {k : Option CircuitNotice} (h : s.Allocates t c a o k) :
    t.record c = some { a.record with owed := o } :=
  (h.record c).trans (if_pos rfl)

theorem Allocation.Fresh.queueFits {a : Allocation} {o : Owed} : Record.queueFits { a.record with owed := o } :=
  fun _ => rfl

theorem PoolLaws.allocates {a : Allocation} {o : Owed} {k : Option CircuitNotice} (h : PoolLaws s)
    (allocates : s.Allocates t c a o k) : PoolLaws t := by
  have sums (f : Record → Nat) := allocates.sumRecords (f := f) allocates.after
  refine ⟨?_, ?_, ?_, fun d q hq => ?_⟩
  · have quota : t.sumRecords Record.quota = s.sumRecords Record.quota + a.quota := sums Record.quota
    have total : s.reservationTotal = _ := h.reservation.1
    have bound := allocates.hasRoom
    rw [ReservationLaw, allocates.reservationTotal, quota, ← total]
    exact ⟨rfl, bound⟩
  · have cells : t.sumRecords (fun r => r.rxQueue.length) = s.sumRecords fun r => r.rxQueue.length :=
      (sums _).trans (by simp [Allocation.record])
    have total : s.cellsHeld = _ := h.cellsHeld
    rw [CellsHeldLaw, allocates.cellsHeld, cells, total]
  · have cells : t.sumRecords (fun r => r.txQueue.length) = s.sumRecords fun r => r.txQueue.length :=
      (sums _).trans (by simp [Allocation.record])
    have lines : t.cellsOnLines = s.cellsOnLines :=
      State.cellsOnLines_congr fun m => by rw [allocates.link m]
    rw [TransmitPoolLaw, allocates.txFree, lines, cells]
    exact h.transmit
  · change t.record d = some q at hq
    rw [allocates.record] at hq
    split at hq
    · cases hq
      exact Allocation.Fresh.queueFits
    · exact h.queues d q hq

theorem PoolLaws.frees (h : PoolLaws s) (frees : s.Frees t c r) (empty : r.txQueue = []) : PoolLaws t := by
  refine ⟨?_, ?_, ?_, fun d q hq => ?_⟩
  · have sum := frees.sumRecords (f := Record.quota)
    obtain ⟨total, bound⟩ := h.reservation
    rw [ReservationLaw, frees.reservationTotal]
    omega
  · have sum := frees.sumRecords (f := fun r => r.rxQueue.length)
    have total : _ = _ := h.cellsHeld
    rw [CellsHeldLaw, frees.cellsHeld]
    omega
  · have sum := frees.sumRecords (f := fun r => r.txQueue.length)
    have lines : t.cellsOnLines = s.cellsOnLines :=
      State.cellsOnLines_congr fun m => by rw [frees.link m]
    have total : _ = _ := h.transmit
    simp only [empty, List.length_nil] at sum
    rw [TransmitPoolLaw, frees.txFree, lines]
    omega
  · change t.record d = some q at hq
    rw [frees.record] at hq
    split at hq
    · cases hq
    · exact h.queues d q hq

/-! ### What a change of a record means for the transmit queue -/

theorem Record.Change.queueFits (change : r.Change r') (h : r.queueFits) : r'.queueFits := by
  cases change with
  | owes => exact h
  | asks => exact h
  | repeats => exact h
  | answers offered => exact fun _ => h (by simp [offered])
  | closes _ empty => exact fun _ => empty
  | drains => exact fun other => absurd rfl other.2.2
  | amends => exact h
  | wantsRoom => exact h
  | hasRoom => exact h
  | queues phase =>
    intro other
    change r.phase ≠ _ ∧ r.phase ≠ _ ∧ r.phase ≠ _ at other
    rcases phase with phase | phase
    · exact absurd phase other.1
    · exact absurd phase other.2.1
  | breaks => exact fun _ => rfl
  | worsens phase => exact fun _ => h (by simp [phase])
  | opens => exact fun other => absurd rfl other.2.1
  | ends => exact fun _ => rfl
  | forgets => exact h

/-! ### Every part of an event -/

theorem Link.Tweak.onLine {x y : Link} (h : x.Tweak y) : y.onLine = x.onLine := by
  cases h with
  | configures cfg lines =>
    unfold Link.configure
    split <;> rfl
  | _ => rfl

theorem Link.Work.onLine {x y : Link} (h : x.Work y) : y.onLine = x.onLine := by
  cases h <;> rfl

theorem State.onLine_setLink {x : Link} (h : x.onLine = (s.link l).onLine) (m : LinkNo) :
    ((s.setLink l x).link m).onLine = (s.link m).onLine := by
  rw [show s.setLink l x = s.onLink l fun _ => x from rfl, State.link_onLink]
  split
  · rename_i same; rw [h, same]
  · rfl

theorem PoolLaws.setLink {x : Link} (h : PoolLaws s) (same : x.onLine = (s.link l).onLine) :
    PoolLaws (s.setLink l x) :=
  h.congr (fun _ => rfl) (congrArg (· + s.txFree) (State.cellsOnLines_congr (State.onLine_setLink same))) rfl rfl

theorem PoolLaws.clearLine (h : PoolLaws s) : PoolLaws (s.clearLine l) :=
  h.congr (by simp) (s.clearLine_cells l) (by simp) (by simp)

theorem PoolLaws.cutFrame (h : PoolLaws s) : PoolLaws (s.cutFrame l) := by
  unfold State.cutFrame
  split
  · exact h
  · exact h.clearLine.setLink rfl

theorem PoolLaws.linkDown (h : PoolLaws s) (cause : DownCause) : PoolLaws (s.linkDown l cause) := by
  have emptied := h.setLink (l := l)
    (x := { s.link l with controlList := [], answerList := [], deadTimer := none, lastDown := some cause }) rfl
  exact emptied.congr (fun _ => rfl) rfl rfl rfl

theorem PoolLaws.change {k : Option CircuitNotice} (change : r.Change r') (rewrites : s.Rewrites t c r r' k)
    (h : PoolLaws s) : PoolLaws t :=
  h.rewrites rewrites change.queueFits

theorem PoolLaws.move (move : Move l s t) (h : PoolLaws s) : PoolLaws t := by
  cases move with
  | tweak tweak =>
    cases tweak with
    | link tweak => exact h.setLink tweak.onLine
    | post => exact h.congr (fun _ => rfl) rfl rfl rfl
    | record _ change _ rewrites => exact h.change change rewrites
    | collectCircuit => exact h.congr (fun _ => rfl) rfl rfl rfl
    | collectLink => exact h.congr (fun _ => rfl) rfl rfl rfl
  | work work => exact h.setLink work.onLine
  | record _ change _ _ rewrites => exact h.change change rewrites
  | opens _ _ _ steps =>
    refine (kept_of_row (P := PoolLaws) (fun step h => ?_) steps h).congr (fun _ => rfl) rfl rfl rfl
    obtain ⟨_, _, _, _, _, change, _, rewrites⟩ := step
    exact h.change change rewrites
  | answer item =>
    refine h.setLink ?_
    dsimp only
    split <;> rfl
  | loses cause => exact (h.linkDown cause).setLink rfl
  | stops cause => exact (h.linkDown cause).cutFrame.setLink rfl
  | halts => exact h.cutFrame.setLink rfl
  | endsFrame => exact h.clearLine.setLink rfl

theorem Record.queueFits_congr {q : Record} (fits : r.queueFits) (phase : q.phase = r.phase)
    (queue : q.txQueue = r.txQueue) : q.queueFits := by
  rw [Record.queueFits, phase, queue]
  exact fits

theorem PoolLaws.once (once : Once i l s t) (h : PoolLaws s) : PoolLaws t := by
  cases once with
  | allocates _ _ first _ allocates =>
    have reached := kept_of_row (P := PoolLaws) (fun step h => PoolLaws.move step h) first h
    exact reached.allocates allocates
  | frees _ offered frees => exact h.frees frees (h.queues _ _ frees.before (by simp [offered]))
  | accepts _ _ _ rewrites => exact h.rewrites rewrites id
  | offers _ _ rewrites =>
    refine h.rewrites rewrites fun fits => ?_
    obtain ⟨-, -, phase, tx, -⟩ := Record.offerLimit_frame _ _ _
    exact Record.queueFits_congr fits phase tx
  | delivers _ _ _ _ rewrites => exact h.rewrites rewrites id

/-- The state after a frame's start: the frame holds a cell that the pool gives up (R108). -/
theorem PoolLaws.startFrame {f : Frame} (h : PoolLaws s) (free : (s.link l).onLine = none)
    (plain : f.holdsCell = false) : PoolLaws (s.startFrame l f) := by
  have taken := s.cellsOnLines_onLink l fun x => x.started f
  have before : (s.link l).holdsCell = false := by simp [Link.holdsCell, free]
  have after : ((s.link l).started f).holdsCell = false := plain
  rw [before, after] at taken
  have lines : (s.startFrame l f).cellsOnLines = s.cellsOnLines := taken
  exact h.congr (fun _ => rfl) (congrArg (· + s.txFree) lines) rfl rfl

theorem PoolLaws.startData {f : Frame} (h : PoolLaws s) (free : (s.link l).onLine = none)
    (cell : f.holdsCell = true) (pool : s.txFree ≠ 0) :
    PoolLaws ({ s with txFree := s.txFree - 1 }.startFrame l f) := by
  have taken := s.cellsOnLines_onLink l fun x => x.started f
  have before : (s.link l).holdsCell = false := by simp [Link.holdsCell, free]
  have after : ((s.link l).started f).holdsCell = true := cell
  rw [before, after] at taken
  refine h.congr (fun _ => rfl) ?_ rfl rfl
  change (s.onLink l fun x => x.started f).cellsOnLines + (s.txFree - 1) = _
  simp only [Bool.toNat_false, Bool.toNat_true] at taken
  omega

theorem Record.controlFrame_holdsCell (r : Record) (c : CircuitNo) (g : Byte) (k : ControlKind) :
    (r.controlFrame c g k).holdsCell = false := by
  cases k <;> rfl

theorem AnswerItem.frame_holdsCell (item : AnswerItem) : item.frame.holdsCell = false := by
  cases item <;> rfl

theorem Record.afterFrame_txQueue (r : Record) (n : Nat) (k : ControlKind) :
    (r.afterFrame n k).txQueue = r.txQueue ∧ (r.afterFrame n k).rxQueue = r.rxQueue
      ∧ (r.afterFrame n k).quota = r.quota ∧ (r.afterFrame n k).phase = r.phase := by
  unfold Record.afterFrame Record.afterControl
  cases k with
  | close => dsimp only; split <;> exact ⟨rfl, rfl, rfl, rfl⟩
  | _ => exact ⟨rfl, rfl, rfl, rfl⟩

theorem State.sumRecords_setRecord {f : Record → Nat} (before : s.record c = some r) (same : f r' = f r) :
    (s.setRecord c (some r')).sumRecords f = s.sumRecords f := by
  have changed := State.sumRecords_changed (s := s) (t := s.setRecord c (some r')) (f := f) (c := c)
    fun d hd => State.record_setRecord_ne s (some r') hd
  rw [State.share_of_record before, State.share_of_record (State.record_setRecord_self s c (some r')), same]
    at changed
  exact Nat.add_right_cancel changed

theorem PoolLaws.setRecord (h : PoolLaws s) (before : s.record c = some r) (quota : r'.quota = r.quota)
    (phase : r'.phase = r.phase) (tx : r'.txQueue = r.txQueue) (rx : r'.rxQueue = r.rxQueue) :
    PoolLaws (s.setRecord c (some r')) := by
  have rewritten {f : Record → Nat} (same : f r' = f r) := State.sumRecords_setRecord before same
  refine ⟨?_, ?_, ?_, fun d q hq => ?_⟩
  · rw [ReservationLaw, rewritten quota]
    exact h.reservation
  · rw [CellsHeldLaw, rewritten (by rw [rx])]
    exact h.cellsHeld
  · rw [TransmitPoolLaw, rewritten (by rw [tx])]
    exact h.transmit
  · change (s.setRecord c _).record d = some q at hq
    rw [State.record_setRecord] at hq
    split at hq
    · cases hq
      exact Record.queueFits_congr (h.queues c r before) phase tx
    · exact h.queues d q hq

theorem Record.afterData_queueFits {n : Nat} {payload : List Byte} {rest : List (List Byte)} (fits : r.queueFits)
    (queue : r.txQueue = payload :: rest) : (r.afterData n rest).queueFits := by
  unfold Record.afterData
  split
  · rename_i drained
    exact fun _ => drained.2
  · intro other
    have empty := fits other
    rw [queue] at empty
    cases empty

theorem Record.afterData_txQueue (r : Record) (n : Nat) (rest : List (List Byte)) :
    (r.afterData n rest).txQueue = rest := by
  unfold Record.afterData
  split <;> rfl

theorem PoolLaws.start (start : Start l s t) (h : PoolLaws s) : PoolLaws t := by
  cases start with
  | busy => exact h
  | idle => exact h
  | drops => exact h.setLink rfl
  | hello _ free =>
    have prepared := h.setLink (l := l) (x := { s.link l with helloDue := false }) rfl
    exact prepared.startFrame (by simpa using free) rfl
  | @control c r k rest _ free _ before =>
    obtain ⟨tx, rx, quota, phase⟩ := Record.afterFrame_txQueue r s.settings.retryMs k
    have written := h.setRecord before quota phase tx rx
    have listed := written.setLink (l := l) (x := { s.link l with
      controlList := if (r.afterFrame s.settings.retryMs k).owed.isEmpty then rest else rest ++ [c] }) rfl
    exact listed.startFrame (by simpa using free) (r.controlFrame_holdsCell c _ k)
  | @answer item rest _ free =>
    have prepared := h.setLink (l := l) (x := { s.link l with answerList := rest }) rfl
    exact prepared.startFrame (by simpa using free) item.frame_holdsCell
  | @data u c _ p _ _ _ free _ _ queue rewrites =>
    have sent := h.rewrites rewrites fun fits => Record.afterData_queueFits fits queue
    have cells : u.txFree ≠ 0 := by
      have returned := rewrites.txFree
      rw [queue, Record.afterData_txQueue, List.length_cons] at returned
      omega
    have idle : (u.link l).onLine = none := by rw [rewrites.link l]; exact free
    have turned := sent.setLink (l := l)
      (x := { u.link l with lastServed := (u.link l).lastServed.set p c }) rfl
    have started {f : Frame} (cell : f.holdsCell = true) :=
      turned.startData (l := l) (f := f) (by rw [State.link_setLink_self]; exact idle) cell cells
    exact started rfl

/-! ### Commands and resets -/

theorem PoolLaws.of_free (free : ∀ c, s.record c = none) (reservationTotal : s.reservationTotal = 0)
    (cellsHeld : s.cellsHeld = 0) (cells : s.cellsOnLines + s.txFree = Config.transmitCells) : PoolLaws s := by
  refine ⟨?_, ?_, ?_, fun c r hr => ?_⟩
  · rw [ReservationLaw, State.sumRecords_of_free free, reservationTotal]
    exact ⟨rfl, Nat.zero_le _⟩
  · rw [CellsHeldLaw, State.sumRecords_of_free free, cellsHeld]
  · rw [TransmitPoolLaw, State.sumRecords_of_free free, Nat.zero_add, cells]
  · rw [free c] at hr
    cases hr

theorem State.cellsOnLines_of_idle (h : ∀ m, (s.link m).onLine = none) : s.cellsOnLines = 0 := by
  simp [State.cellsOnLines, h]

theorem State.cellsOnLines_le (s : State) : s.cellsOnLines ≤ 4 := List.length_filter_le _ _

theorem State.link_cleared (s : State) (m : LinkNo) :
    s.cleared.link m = (s.link m).clear s.settings.helloMs := by
  simp [State.cleared, State.link]

theorem PoolLaws.cleared (s : State) : PoolLaws s.cleared := by
  refine .of_free (record_freeAll rfl) rfl rfl ?_
  have lines : s.cleared.cellsOnLines = s.cellsOnLines := State.cellsOnLines_congr fun m => by
    rw [State.link_cleared]
    unfold Link.clear
    split <;> rfl
  have few := s.cellsOnLines_le
  rw [lines]
  change s.cellsOnLines + (256 - s.cellsOnLines) = 256
  omega

theorem State.link_resetn (s : State) (rxd : Vector LineLevel 4) (m : LinkNo) :
    (s.resetn rxd).link m = (s.link m).resetn rxd[m] := by
  simp [State.resetn, State.link]

theorem State.link_endPowerHold (s : State) (low : Bool) (rxd : Vector LineLevel 4) (m : LinkNo) :
    (s.endPowerHold low rxd).link m = { Link.reset with receiver := receiverAt false rxd[m] } := by
  simp [State.endPowerHold, State.link]

theorem PoolLaws.resetn (s : State) (rxd : Vector LineLevel 4) : PoolLaws (s.resetn rxd) :=
  .of_free (record_freeAll rfl) rfl rfl
    (congrArg (· + Config.transmitCells) (State.cellsOnLines_of_idle fun m => by rw [State.link_resetn]; rfl))

theorem PoolLaws.powers (s : State) (low : Bool) (rxd : Vector LineLevel 4) : PoolLaws (s.endPowerHold low rxd) :=
  .of_free (record_reset rfl) rfl rfl
    (congrArg (· + Config.transmitCells)
      (State.cellsOnLines_of_idle fun m => by rw [State.link_endPowerHold]; rfl))

theorem kept_poolLaws : Kept PoolLaws where
  window _ h := h.congr (fun _ => rfl) rfl rfl rfl
  move := PoolLaws.move
  once := PoolLaws.once
  start := PoolLaws.start
  release ended frees h := PoolLaws.frees h frees (PoolLaws.queues h _ _ frees.before (by
    rename_i r
    cases phase : r.phase <;> simp_all [Phase.live]))
  services _ h := h.congr (fun _ => rfl) rfl rfl rfl
  cleared _ := .cleared _
  resets rxd _ := .resetn _ rxd
  released _ h := h.congr (fun _ => rfl) rfl rfl rfl
  rises rxd _ := (PoolLaws.resetn _ rxd).congr (fun _ => rfl) rfl rfl rfl
  powers low rxd _ := .powers _ low rxd

/-- Settles O51: every form of an event keeps the totals of the pools (`kept_poolLaws`). -/
theorem stepsKeepThePoolTotals : Obligations.StepsKeepThePoolTotals := by
  unfold Obligations.StepsKeepThePoolTotals
  rintro s t ⟨reservation, cellsHeld, transmit, queues⟩ next
  have after := kept_poolLaws.step next ⟨reservation, cellsHeld, transmit, queues⟩
  exact ⟨after.reservation, after.cellsHeld, after.transmit, after.queues⟩

end Sys2Proof.Machine
end

section
/-! PROOFS. The Service Table, the active counts and the ranges of a record (R6, R7, R25, R26, R96). -/

namespace Sys2Proof.Machine

set_option Elab.async false

open Relation (ReflTransGen)

variable {s t u v : State} {l : LinkNo} {c : CircuitNo} {r r' : Record} {i : Instr}

/-! ### One record -/

/-- The ranges of one record, and the direction of a CALLING one (R6, R7, R48, R96). -/
structure Record.Sized (r : Record) : Prop where
  calling : r.phase = .calling → r.direction = .outgoing
  quota : 1 ≤ r.quota ∧ r.quota ≤ 64
  threshold : 1 ≤ r.threshold ∧ r.threshold ≤ r.quota
  depth : 1 ≤ r.depth ∧ r.depth ≤ 32
  held : r.txQueue.length ≤ r.depth

/-- A record of the same identity, threshold and depth that has not come to be CALLING and has not more queued. -/
theorem Record.Sized.same (h : r.Sized) (identity : r'.identity = r.identity)
    (calling : r'.phase = .calling → r.phase = .calling) (threshold : r'.threshold = r.threshold)
    (depth : r'.depth = r.depth) (held : r'.txQueue.length ≤ r.txQueue.length) : r'.Sized := by
  simp only [Record.identity, Prod.mk.injEq] at identity
  obtain ⟨direction, -, -, quota⟩ := identity
  exact ⟨fun h' => direction.trans (h.calling (calling h')), quota ▸ h.quota, threshold ▸ quota ▸ h.threshold,
    depth ▸ h.depth, depth ▸ held.trans h.held⟩

theorem Record.Change.sized (change : r.Change r') (h : r.Sized) : r'.Sized := by
  cases change with
  | owes => exact h.same rfl id rfl rfl le_rfl
  | asks => exact h.same rfl id rfl rfl le_rfl
  | repeats => exact h.same rfl id rfl rfl le_rfl
  | answers => exact h.same rfl nofun rfl rfl le_rfl
  | closes => exact h.same rfl nofun rfl rfl le_rfl
  | drains => exact h.same rfl nofun rfl rfl le_rfl
  | amends inQuota holds =>
    refine ⟨h.calling, h.quota, ?_, ?_, ?_⟩
    · rcases inQuota with same | range
      · exact same ▸ h.threshold
      · exact range
    · rcases holds with same | range
      · exact same ▸ h.depth
      · exact ⟨range.1, range.2.1⟩
    · rcases holds with same | range
      · exact same ▸ h.held
      · exact range.2.2
  | wantsRoom => exact h.same rfl id rfl rfl le_rfl
  | hasRoom => exact h.same rfl id rfl rfl le_rfl
  | queues _ room =>
    refine ⟨h.calling, h.quota, h.threshold, h.depth, ?_⟩
    simpa [Record.settleAsk] using room
  | breaks => exact h.same rfl nofun rfl rfl (Nat.zero_le _)
  | worsens => exact h.same rfl nofun rfl rfl le_rfl
  | opens => exact h.same rfl nofun rfl rfl le_rfl
  | ends => exact h.same rfl nofun rfl rfl (Nat.zero_le _)
  | forgets => exact h.same rfl id rfl rfl le_rfl

/-- Whether R26 counts a record for a service number. -/
def Record.countsFor (r : Record) (number : Byte) : Bool :=
  decide (r.direction = .incoming) && decide (r.service = number) && r.phase.counted

theorem Record.Sized.counted (h : r.Sized) (incoming : r.direction = .incoming) :
    r.phase.counted = r.phase.live := by
  cases phase : r.phase with
  | calling => simp [h.calling phase] at incoming
  | _ => rfl

/-- A record of the same direction and service that is live as before counts as before. -/
theorem Record.Sized.countsFor (h : r.Sized) (h' : r'.Sized) (identity : r'.identity = r.identity)
    (live : r'.phase.live = r.phase.live) (number : Byte) : r'.countsFor number = r.countsFor number := by
  simp only [Record.identity, Prod.mk.injEq] at identity
  obtain ⟨direction, -, service, -⟩ := identity
  unfold Record.countsFor
  rw [direction, service]
  by_cases incoming : r.direction = .incoming
  · rw [h.counted incoming, h'.counted (direction.trans incoming), live]
  · simp [incoming]

/-! ### The count of a service number -/

theorem State.countFor_eq (s : State) (number : Byte) :
    s.countFor number = s.sumRecords fun r => (r.countsFor number).toNat := by
  unfold State.countFor
  rw [length_filter_eq_sum]
  refine congrArg List.sum (List.map_congr_left fun c _ => ?_)
  unfold Record.countsFor
  cases s.record c <;> rfl

theorem State.countFor_congr (h : ∀ d, t.record d = s.record d) (number : Byte) :
    t.countFor number = s.countFor number := by
  rw [State.countFor_eq, State.countFor_eq, State.sumRecords_congr h]

/-! ### The laws -/

/-- The laws of the Service Table and of the sizes of the records. -/
structure ServiceLaws (s : State) : Prop where
  table : ServiceTableLaw s
  active : ActiveCountLaw s
  sized : ∀ c r, s.record c = some r → r.Sized

theorem ServiceLaws.congr (h : ServiceLaws s) (services : t.services = s.services)
    (record : ∀ d, t.record d = s.record d) : ServiceLaws t := by
  refine ⟨?_, fun e he => ?_, fun c r hr => h.sized c r (by rw [← record]; exact hr)⟩
  · rw [ServiceTableLaw, services]
    exact h.table
  · rw [services] at he
    rw [State.countFor_congr record]
    exact h.active e he

/-- The entries of a service number after one of its circuits has left the counted states (R26). -/
theorem State.mem_uncount {e : Service} (he : e ∈ (s.uncount r).services) :
    ∃ x ∈ s.services, e = if r.direction = .incoming ∧ x.number = r.service then
      { x with active := x.active - 1 } else x := by
  unfold State.uncount at he
  split at he
  · rename_i direction
    exact ⟨e, he, by simp [direction]⟩
  · rename_i direction
    obtain ⟨x, hx, same⟩ := List.mem_map.1 he
    refine ⟨x, hx, ?_⟩
    rw [← same]
    simp [direction]

theorem ServiceTableLaw.uncount (h : ServiceTableLaw s) (r : Record) : ServiceTableLaw (s.uncount r) := by
  unfold State.uncount
  split
  · exact h
  · exact ServiceTableLaw.onService h (fun _ => rfl) fun _ => id

/-- The active counts after a record that counted has left the counted states. -/
theorem ServiceLaws.uncounted (h : ServiceLaws s) (services : t.services = (s.uncount r).services)
    (counts : ∀ number, t.countFor number + (r.countsFor number).toNat = s.countFor number)
    (counted : r.direction = .incoming → r.phase.counted = true) : ActiveCountLaw t := by
  intro e he
  rw [services] at he
  obtain ⟨x, hx, rfl⟩ := State.mem_uncount he
  have before : x.active = s.countFor x.number := h.active x hx
  have after := counts x.number
  split
  · rename_i left
    have one : r.countsFor x.number = true := by
      simp [Record.countsFor, left.1, left.2, counted left.1]
    rw [one] at after
    simp only [Bool.toNat_true] at after
    change x.active - 1 = t.countFor x.number
    omega
  · rename_i stays
    have zero : r.countsFor x.number = false := by
      by_contra one
      simp only [Record.countsFor, Bool.not_eq_false, Bool.and_eq_true, decide_eq_true_eq] at one
      exact stays ⟨one.1.1, one.1.2.symm⟩
    rw [zero] at after
    simp only [Bool.toNat_false] at after
    omega

theorem ServiceLaws.rewrites {k : Option CircuitNotice} (h : ServiceLaws s) (rewrites : s.Rewrites t c r r' k)
    (sized : r.Sized → r'.Sized) : ServiceLaws t := by
  have before := h.sized c r rewrites.before
  have after := sized before
  have counts (number : Byte) : t.countFor number + (r.countsFor number).toNat =
      s.countFor number + (r'.countsFor number).toNat := by
    rw [State.countFor_eq, State.countFor_eq]
    exact rewrites.sumRecords
  have services := rewrites.services
  have all (d : CircuitNo) (q : Record) (hq : t.record d = some q) : q.Sized := by
    rw [rewrites.record] at hq
    split at hq
    · cases hq
      exact after
    · exact h.sized d q hq
  split at services
  · rename_i ends
    simp only [Bool.and_eq_true, Bool.not_eq_true'] at ends
    have gone (number : Byte) : r'.countsFor number = false := by
      have dead : r'.phase.counted = false := by
        cases phase : r'.phase <;> simp_all [Phase.live, Phase.counted]
      simp [Record.countsFor, dead]
    refine ⟨?_, h.uncounted services (fun number => ?_) fun incoming => ?_, all⟩
    · rw [ServiceTableLaw, services]
      exact h.table.uncount r
    · simpa [gone number] using counts number
    · rw [before.counted incoming, ends.1]
  · rename_i stays
    have live : r'.phase.live = r.phase.live := by
      have forward := rewrites.live
      cases was : r.phase.live <;> cases is : r'.phase.live <;> simp_all
    refine ⟨?_, fun e he => ?_, all⟩
    · rw [ServiceTableLaw, services]
      exact h.table
    · rw [services] at he
      have same := counts e.number
      rw [before.countsFor after rewrites.identity live] at same
      rw [Nat.add_right_cancel same]
      exact h.active e he

theorem keptByTables_serviceLaws : KeptByTables ServiceLaws where
  setLink _ _ h := h.congr rfl fun _ => rfl
  txFree _ h := h.congr rfl fun _ => rfl
  postLink _ _ h := h.congr rfl fun _ => rfl
  postCircuit _ _ h := h.congr rfl fun _ => rfl
  collectCircuit _ h := h.congr rfl fun _ => rfl
  collectLink _ h := h.congr rfl fun _ => rfl
  record change rewrites h := ServiceLaws.rewrites h rewrites change.sized

/-! ### Allocation and release -/

theorem Allocation.Fresh.sized {a : Allocation} {o : Owed} (h : a.Fresh o)
    (sizes : (1 ≤ a.quota ∧ a.quota ≤ 64) ∧ (1 ≤ a.threshold ∧ a.threshold ≤ a.quota) ∧ 1 ≤ a.depth ∧ a.depth ≤ 32) :
    Record.Sized { a.record with owed := o } := by
  refine ⟨fun calling => ?_, sizes.1, sizes.2.1, sizes.2.2, Nat.zero_le _⟩
  change a.phase = _ at calling
  cases h with
  | call _ direction => exact direction
  | auto phase => simp [phase] at calling
  | hold phase => simp [phase] at calling

theorem Allocation.Fresh.counted {a : Allocation} {o : Owed} (h : a.Fresh o) (number : Byte) :
    Record.countsFor { a.record with owed := o } number =
      (decide (a.direction = .incoming) && decide (a.service = number)) := by
  cases h with
  | call _ direction => simp [Record.countsFor, Allocation.record, direction]
  | auto phase => simp [Record.countsFor, Allocation.record, phase, Phase.counted]
  | hold phase => simp [Record.countsFor, Allocation.record, phase, Phase.counted]

theorem ServiceLaws.allocates {a : Allocation} {o : Owed} {k : Option CircuitNotice} (h : ServiceLaws s)
    (allocates : s.Allocates t c a o k) : ServiceLaws t := by
  have counts (number : Byte) : t.countFor number =
      s.countFor number + (decide (a.direction = .incoming) && decide (a.service = number)).toNat := by
    rw [State.countFor_eq, State.countFor_eq, allocates.sumRecords allocates.after,
      ← allocates.fresh.counted number]
  have services := allocates.services
  have table : ServiceTableLaw t := by
    rw [ServiceTableLaw, services]
    split
    · exact ServiceTableLaw.onService h.table (number := a.service)
        (f := fun e => { e with active := e.active + 1 }) (fun _ => rfl) fun _ => id
    · exact h.table
  refine ⟨table, fun e he => ?_, fun d q hq => ?_⟩
  · rw [services] at he
    rw [counts]
    split at he
    · rename_i incoming
      obtain ⟨x, hx, rfl⟩ := List.mem_map.1 he
      have before : x.active = s.countFor x.number := h.active x hx
      by_cases named : x.number = a.service
      · rw [named] at before
        simp [named, incoming, before]
      · simp [named, Ne.symm named, before]
    · rename_i outgoing
      simp [outgoing, h.active e he]
  · rw [allocates.record] at hq
    split at hq
    · cases hq
      exact allocates.fresh.sized (allocates.sizes h.table)
    · exact h.sized d q hq

theorem ServiceLaws.frees (h : ServiceLaws s) (frees : s.Frees t c r) : ServiceLaws t := by
  have before := h.sized c r frees.before
  have counts (number : Byte) : t.countFor number + (r.countsFor number).toNat = s.countFor number := by
    rw [State.countFor_eq, State.countFor_eq]
    exact frees.sumRecords
  have services := frees.services
  have all (d : CircuitNo) (q : Record) (hq : t.record d = some q) : q.Sized := by
    rw [frees.record] at hq
    split at hq
    · cases hq
    · exact h.sized d q hq
  split at services
  · rename_i live
    refine ⟨?_, h.uncounted services counts fun incoming => ?_, all⟩
    · rw [ServiceTableLaw, services]
      exact h.table.uncount r
    · rw [before.counted incoming, live]
  · rename_i ended
    have none (number : Byte) : r.countsFor number = false := by
      have dead : r.phase.counted = false := by
        cases phase : r.phase <;> simp_all [Phase.live, Phase.counted]
      simp [Record.countsFor, dead]
    refine ⟨?_, fun e he => ?_, all⟩
    · rw [ServiceTableLaw, services]
      exact h.table
    · rw [services] at he
      have same := counts e.number
      rw [none] at same
      rw [h.active e he, ← same]
      rfl

theorem ServiceLaws.once (once : Once i l s t) (h : ServiceLaws s) : ServiceLaws t := by
  cases once with
  | allocates _ _ first _ allocates =>
    have reached := kept_of_row (P := ServiceLaws) (fun step h => keptByTables_serviceLaws.move step h) first h
    exact reached.allocates allocates
  | frees _ _ frees => exact h.frees frees
  | accepts _ _ _ rewrites => exact h.rewrites rewrites fun sized => sized.same rfl id rfl rfl le_rfl
  | offers _ _ rewrites =>
    refine h.rewrites rewrites fun sized => ?_
    unfold Record.offerLimit
    split
    · exact sized.same rfl id rfl rfl le_rfl
    · exact sized
  | delivers _ _ _ _ rewrites => exact h.rewrites rewrites fun sized => sized.same rfl id rfl rfl le_rfl

/-! ### Frames, commands and resets -/

theorem Record.Sized.afterData {n : Nat} {payload : List Byte} {rest : List (List Byte)} (h : r.Sized)
    (queue : r.txQueue = payload :: rest) : (r.afterData n rest).Sized := by
  have shorter : rest.length ≤ r.txQueue.length := by rw [queue]; simp
  unfold Record.afterData
  split
  · exact h.same rfl nofun rfl rfl shorter
  · exact h.same rfl id rfl rfl shorter

theorem Record.afterFrame_frame (r : Record) (n : Nat) (k : ControlKind) :
    (r.afterFrame n k).identity = r.identity ∧ (r.afterFrame n k).phase = r.phase
      ∧ (r.afterFrame n k).threshold = r.threshold ∧ (r.afterFrame n k).depth = r.depth
      ∧ (r.afterFrame n k).txQueue = r.txQueue ∧ (r.afterFrame n k).peer = r.peer
      ∧ (r.afterFrame n k).owed = r.owed.put k false := by
  unfold Record.afterFrame Record.afterControl
  cases k with
  | close => dsimp only; split <;> exact ⟨rfl, rfl, rfl, rfl, rfl, rfl, rfl⟩
  | _ => exact ⟨rfl, rfl, rfl, rfl, rfl, rfl, rfl⟩

theorem ServiceLaws.setRecord (h : ServiceLaws s) (before : s.record c = some r) (sized : r'.Sized)
    (identity : r'.identity = r.identity) (live : r'.phase.live = r.phase.live) :
    ServiceLaws (s.setRecord c (some r')) := by
  refine ⟨h.table, fun e he => ?_, fun d q hq => ?_⟩
  · rw [State.countFor_eq, State.sumRecords_setRecord before (by
      rw [(h.sized c r before).countsFor sized identity live]), ← State.countFor_eq]
    exact h.active e he
  · rw [State.record_setRecord] at hq
    split at hq
    · cases hq
      exact sized
    · exact h.sized d q hq

theorem ServiceLaws.start (start : Start l s t) (h : ServiceLaws s) : ServiceLaws t := by
  cases start with
  | busy => exact h
  | idle => exact h
  | drops => exact h.congr rfl fun _ => rfl
  | hello => exact h.congr rfl fun _ => rfl
  | @control c r k _ _ _ _ before =>
    obtain ⟨identity, phase, threshold, depth, tx, -⟩ := r.afterFrame_frame s.settings.retryMs k
    have sized := (h.sized c r before).same identity (fun calling => phase ▸ calling) threshold depth (by rw [tx])
    have written := h.setRecord before sized identity (by rw [phase])
    exact written.congr rfl fun _ => rfl
  | answer => exact h.congr rfl fun _ => rfl
  | data _ _ _ _ queue rewrites =>
    have sent := h.rewrites rewrites fun sized => sized.afterData queue
    exact sent.congr rfl fun _ => rfl

theorem ServiceLaws.changed {es : List Service} (h : ServiceLaws s) (change : ServiceChange s es) :
    ServiceLaws { s with services := es } := by
  cases change with
  | @adds e range fresh room active =>
    refine ⟨ServiceTableLaw.insert h.table range fresh room, fun x hx => ?_, h.sized⟩
    rcases List.mem_cons.1 ((perm_insertService e s.services).mem_iff.1 hx) with rfl | old
    · exact active
    · exact h.active x old
  | amends range =>
    refine ⟨ServiceTableLaw.onService h.table (fun _ => rfl) fun x inRange => ?_, fun x hx => ?_, h.sized⟩
    · exact ⟨inRange.1, range.2⟩
    · obtain ⟨y, hy, rfl⟩ := List.mem_map.1 hx
      split
      · exact h.active y hy
      · exact h.active y hy
  | removes number =>
    exact ⟨ServiceTableLaw.removeService h.table number, fun x hx => h.active x (List.mem_of_mem_filter hx),
      h.sized⟩

theorem ServiceLaws.of_free (services : s.services = []) (free : ∀ c, s.record c = none) : ServiceLaws s := by
  refine ⟨?_, by simp [ActiveCountLaw, services], fun c r hr => ?_⟩
  · simp [ServiceTableLaw, services]
  · rw [free c] at hr
    cases hr

theorem kept_serviceLaws : Kept ServiceLaws where
  window _ h := h.congr rfl fun _ => rfl
  move := keptByTables_serviceLaws.move
  once := ServiceLaws.once
  start := ServiceLaws.start
  release _ frees h := h.frees frees
  services change h := h.changed change
  cleared _ := .of_free rfl (record_freeAll rfl)
  resets _ _ := .of_free rfl (record_freeAll rfl)
  released _ h := h.congr rfl fun _ => rfl
  rises _ _ := .of_free rfl (record_freeAll rfl)
  powers _ _ _ := .of_free rfl (record_reset rfl)

/-- Settles O54: every form of an event keeps the table, its counts and the ranges (`kept_serviceLaws`). -/
theorem stepsKeepTheServiceTableAndItsCounts : Obligations.StepsKeepTheServiceTableAndItsCounts := by
  unfold Obligations.StepsKeepTheServiceTableAndItsCounts
  rintro s t ⟨table, active, calling, sizes⟩ next
  have sized (c : CircuitNo) (r : Record) (hr : s.record c = some r) : r.Sized :=
    let ⟨quota, quotaMost, threshold, inQuota, depth, depthMost, held⟩ := sizes c r hr
    ⟨calling c r hr, ⟨quota, quotaMost⟩, ⟨threshold, inQuota⟩, ⟨depth, depthMost⟩, held⟩
  have after := kept_serviceLaws.step next ⟨table, active, sized⟩
  refine ⟨after.table, after.active, fun c r hr => (after.sized c r hr).calling, fun c r hr => ?_⟩
  obtain ⟨-, quota, threshold, depth, held⟩ := after.sized c r hr
  exact ⟨quota.1, quota.2, threshold.1, threshold.2, depth.1, depth.2, held⟩

end Sys2Proof.Machine
end

section
/-! PROOFS. What the parts of an event do to the links, and the laws of the line machines, of the peer numbers and
of the hold (R16, R121, R139 to R149, R176 to R178). -/

namespace Sys2Proof.Machine

set_option Elab.async false

open Relation (ReflTransGen)

variable {s t u v : State} {l m : LinkNo} {c : CircuitNo} {r r' : Record} {i : Instr}

/-! ### The other links -/

theorem State.otherLink_onLink (f : Link → Link) (other : m ≠ l) : (s.onLink l f).link m = s.link m :=
  State.link_onLink_ne s f other

theorem State.otherLink_clearLine (other : m ≠ l) : (s.clearLine l).link m = s.link m := by
  unfold State.clearLine
  split
  · rfl
  · dsimp only
    split
    · exact (State.link_with_txFree _ _ _).trans (State.otherLink_onLink _ other)
    · exact State.otherLink_onLink _ other

theorem State.otherLink_cutFrame (other : m ≠ l) : (s.cutFrame l).link m = s.link m := by
  unfold State.cutFrame
  split
  · rfl
  · exact (State.otherLink_onLink _ other).trans (State.otherLink_clearLine other)

theorem State.otherLink_linkDown (cause : DownCause) (other : m ≠ l) :
    (s.linkDown l cause).link m = s.link m := by
  unfold State.linkDown
  simp only [State.postLink_frame]
  exact State.otherLink_onLink _ other

theorem RecordStep.otherLink (h : RecordStep l s t) (other : m ≠ l) : t.link m = s.link m := by
  obtain ⟨_, _, _, _, rfl, _, _, rewrites⟩ := h
  exact rewrites.otherLink m other

theorem otherLink_of_row {R : State → State → Prop} (h : ∀ {s t}, R s t → t.link m = s.link m)
    (row : ReflTransGen R s t) : t.link m = s.link m := by
  induction row with
  | refl => rfl
  | tail _ last ih => exact (h last).trans ih

theorem Tweak.otherLink (h : Tweak l s t) (other : m ≠ l) : t.link m = s.link m := by
  cases h with
  | link => exact State.link_setLink_ne s _ other
  | post => rfl
  | record on _ _ rewrites => exact rewrites.otherLink m (on ▸ other)
  | collectCircuit => rfl
  | collectLink => rfl

theorem Move.otherLink (h : Move l s t) (other : m ≠ l) : t.link m = s.link m := by
  cases h with
  | tweak tweak => exact tweak.otherLink other
  | work => exact State.link_setLink_ne s _ other
  | record on _ _ _ rewrites => exact rewrites.otherLink m (on ▸ other)
  | opens _ _ _ steps =>
    have unmoved := otherLink_of_row (fun step => RecordStep.otherLink step other) steps
    exact unmoved
  | answer => exact State.otherLink_onLink _ other
  | loses cause => exact (State.otherLink_onLink _ other).trans (State.otherLink_linkDown cause other)
  | stops cause =>
    exact (State.otherLink_onLink _ other).trans
      ((State.otherLink_cutFrame other).trans (State.otherLink_linkDown cause other))
  | halts => exact (State.otherLink_onLink _ other).trans (State.otherLink_cutFrame other)
  | endsFrame => exact (State.otherLink_onLink _ other).trans (State.otherLink_clearLine other)

theorem Moves.otherLink (h : Moves l s t) (other : m ≠ l) : t.link m = s.link m :=
  otherLink_of_row (fun step => Move.otherLink step other) h

theorem Once.otherLink (h : Once i l s t) (other : m ≠ l) : t.link m = s.link m := by
  cases h with
  | allocates on _ first _ allocates =>
    exact (allocates.otherLink m (on ▸ other)).trans (Moves.otherLink first other)
  | frees on _ frees => exact frees.otherLink m (on ▸ other)
  | accepts on _ _ rewrites => exact rewrites.otherLink m (on ▸ other)
  | offers on _ rewrites => exact rewrites.otherLink m (on ▸ other)
  | delivers on _ _ _ rewrites => exact rewrites.otherLink m (on ▸ other)

theorem Claim.otherLink (h : Claim i l s t) (other : m ≠ l) : t.link m = s.link m := by
  cases h with
  | moves moves => exact moves.otherLink other
  | once before once after =>
    exact (Moves.otherLink after other).trans ((once.otherLink other).trans (Moves.otherLink before other))

theorem State.otherLink_startFrame {f : Frame} (other : m ≠ l) : (s.startFrame l f).link m = s.link m :=
  State.otherLink_onLink _ other

theorem Start.otherLink (h : Start l s t) (other : m ≠ l) : t.link m = s.link m := by
  cases h with
  | busy => rfl
  | idle => rfl
  | drops => exact State.otherLink_onLink _ other
  | hello => exact (State.otherLink_startFrame other).trans (State.link_setLink_ne s _ other)
  | control => exact (State.otherLink_startFrame other).trans (State.otherLink_onLink _ other)
  | answer => exact (State.otherLink_startFrame other).trans (State.otherLink_onLink _ other)
  | data _ _ _ eligible _ rewrites =>
    have on : m ≠ _ := (Record.sends_of_eligible eligible).1.symm ▸ other
    exact (State.otherLink_startFrame other).trans
      ((State.otherLink_onLink _ other).trans (rewrites.otherLink m on))

/-! ### The laws of one link -/

/-- The dead timer, the epoch and the line machines of one link in order (R121, R139 to R149). -/
structure Link.Sound (x : Link) : Prop where
  dead : x.deadTimer.isSome = x.isUp
  epoch : x.state ≠ .stopped → x.ownEpoch ≠ 0
  transmitter : x.transmitterFits = true
  receiver : x.receiverFits = true
  path : x.config.loopback = false → x.loopPath = []
  stopped : x.state = .stopped → x.onLine = none

theorem Link.Sound.transmitter_of_free {x : Link} (h : x.Sound) (free : x.onLine = none) :
    (x.transmitter = .idle ∧ x.cutDelimiters = 0) ∨
      ((∃ cfg, x.transmitter = .finishing cfg ∨ x.transmitter = .sendingDelimiter cfg) ∧ x.cutDelimiters ≠ 0) := by
  have fits := h.transmitter
  unfold Link.transmitterFits at fits
  cases phase : x.transmitter with
  | idle => simp_all
  | sendingFrame cfg => simp_all
  | finishing cfg => simp_all
  | sendingDelimiter cfg => simp_all

theorem Link.receiverFits_of_not_receiving {x : Link} (h : ∀ cfg, x.receiver ≠ .receiving cfg) :
    x.receiverFits = true := by
  unfold Link.receiverFits
  cases phase : x.receiver with
  | receiving cfg => exact absurd phase (h cfg)
  | _ => rfl

theorem Link.Sound.configure {x : Link} (h : x.Sound) (cfg : LineConfig) (lines : LinesNow)
    (stopped : x.state = .stopped) : (x.configure cfg lines).Sound := by
  have idle := h.transmitter_of_free (h.stopped stopped)
  obtain ⟨onLine, cut, state⟩ := x.configure_frame cfg lines
  by_cases same : x.config = cfg
  · rw [← same, x.configure_same lines]
    exact h
  · refine ⟨?_, fun runs => absurd (state.trans stopped) runs, ?_, ?_, ?_, fun _ => onLine.trans (h.stopped stopped)⟩
    · rw [Link.configure, if_neg same]
      exact h.dead
    · rw [Link.configure, if_neg same]
      rcases idle with ⟨idle, none⟩ | ⟨⟨old, idle | idle⟩, some⟩
      · simp [Link.transmitterFits, Link.transmitterAt, idle, none, h.stopped stopped]
      · cases begun : lines.delimiterBegun <;> simp [Link.transmitterFits, Link.transmitterAt, idle, some]
      · simp [Link.transmitterFits, Link.transmitterAt, idle, some]
    · rw [Link.configure, if_neg same]
      exact Link.receiverFits_of_not_receiving fun _ => receiverConfigured_not_receiving _ _ _ _
    · rw [Link.configure, if_neg same]
      intro plain
      change cfg.loopback = false at plain
      simp [plain]

theorem Link.Sound.tweak {x y : Link} (h : x.Sound) (tweak : x.Tweak y) : y.Sound := by
  cases tweak with
  | assembles => exact ⟨h.dead, h.epoch, h.transmitter, h.receiver, h.path, h.stopped⟩
  | watches r fits =>
    refine ⟨h.dead, h.epoch, h.transmitter, ?_, h.path, h.stopped⟩
    unfold Link.receiverFits
    cases r with
    | receiving cfg => simpa using fits cfg rfl
    | _ => rfl
  | takes path looped =>
    refine ⟨h.dead, h.epoch, h.transmitter, h.receiver, fun plain => ?_, h.stopped⟩
    change x.config.loopback = false at plain
    simp [looped] at plain
  | faults => exact ⟨h.dead, h.epoch, h.transmitter, h.receiver, h.path, h.stopped⟩
  | configures cfg lines stopped => exact h.configure cfg lines stopped
  | endsDelimiter => exact ⟨h.dead, h.epoch, x.transmitterFits_endDelimiter, h.receiver, h.path, h.stopped⟩
  | idles => exact ⟨h.dead, h.epoch, h.transmitter, h.receiver, h.path, h.stopped⟩

theorem nextEpoch_ne_zero (e : Word) : nextEpoch e ≠ 0 := by
  unfold nextEpoch
  split
  · simp
  · rename_i most
    intro zero
    exact most (by bv_omega)

theorem Link.Sound.seek {x : Link} (h : x.Sound) (n : Nat) (epoch : Word) : (x.seek n epoch).Sound :=
  ⟨rfl, fun _ => nextEpoch_ne_zero _, h.transmitter, h.receiver, h.path, nofun⟩

theorem Link.Sound.work {x y : Link} (h : x.Sound) (work : x.Work y) : y.Sound := by
  cases work with
  | starts n =>
    have seeks := h.seek n 0
    exact ⟨seeks.dead, seeks.epoch, seeks.transmitter, seeks.receiver, seeks.path, seeks.stopped⟩
  | hears n up => exact ⟨up.symm, h.epoch, h.transmitter, h.receiver, h.path, h.stopped⟩
  | notes => exact ⟨h.dead, h.epoch, h.transmitter, h.receiver, h.path, h.stopped⟩
  | comesUp epoch n seeking =>
    exact ⟨rfl, fun _ => h.epoch (by simp [seeking]), h.transmitter, h.receiver, h.path, nofun⟩
  | dueHello => exact ⟨h.dead, h.epoch, h.transmitter, h.receiver, h.path, h.stopped⟩

/-- The lists of a link, its HELLO flags and the notices are no part of its soundness. -/
theorem Link.Sound.lists {x : Link} (h : x.Sound) (control : List CircuitNo) (answers : List AnswerItem)
    (down : Option DownCause) (due : Bool) (served : Vector CircuitNo 4) :
    Link.Sound { x with
      controlList := control, answerList := answers, lastDown := down, helloDue := due, lastServed := served } :=
  ⟨h.dead, h.epoch, h.transmitter, h.receiver, h.path, h.stopped⟩

theorem Link.Sound.cut {x : Link} {f : Frame} (h : x.Sound) (sending : x.onLine = some f) :
    Link.Sound { x with
      onLine := none
      transmitter := x.transmitter.cut
      cutDelimiters := x.cutDelimiters + 1
      loopPath := if x.config.loopback then x.cutPath f else x.loopPath } := by
  refine ⟨h.dead, h.epoch, ?_, h.receiver, fun plain => ?_, fun _ => rfl⟩
  · have fits := h.transmitter
    unfold Link.transmitterFits at fits
    cases phase : x.transmitter with
    | idle => simp [phase, sending] at fits
    | _ => simp [Link.transmitterFits, LineTransmitter.cut]
  · change x.config.loopback = false at plain
    simpa [plain] using h.path plain

theorem Link.Sound.stop {x : Link} (h : x.Sound) (free : x.onLine = none) :
    (Link.huntEmpty { x with state := .stopped, helloDue := false, helloTimer := none, deadTimer := none }).Sound :=
  ⟨rfl, fun runs => absurd rfl runs, h.transmitter, h.receiver, h.path, fun _ => free⟩

theorem Link.Sound.endFrame {x : Link} (h : x.Sound) (begun : x.cutDelimiters = 0) :
    Link.Sound { x with onLine := none, transmitter := .idle } :=
  ⟨h.dead, h.epoch, by simp [Link.transmitterFits, begun], h.receiver, h.path, fun _ => rfl⟩

theorem Link.Sound.started {x : Link} (h : x.Sound) (f : Frame) (runs : x.state ≠ .stopped)
    (free : x.onLine = none) : (x.started f).Sound := by
  refine ⟨h.dead, h.epoch, ?_, h.receiver, fun plain => ?_, fun stopped => absurd stopped runs⟩
  · rcases h.transmitter_of_free free with ⟨-, none⟩ | ⟨⟨cfg, busy | busy⟩, some⟩
    · simp [Link.transmitterFits, Link.started, none]
    · simp [Link.transmitterFits, Link.started, some, busy]
    · simp [Link.transmitterFits, Link.started, some, busy]
  · change x.config.loopback = false at plain
    simpa [Link.started, plain] using h.path plain

/-! ### The laws of every link -/

/-- Every link is in order. -/
def LinksSound (s : State) : Prop := ∀ l, (s.link l).Sound

theorem LinksSound.of_links (h : LinksSound s) (l : LinkNo) (others : ∀ m, m ≠ l → t.link m = s.link m)
    (own : (t.link l).Sound) : LinksSound t := by
  intro m
  by_cases same : m = l
  · exact same ▸ own
  · rw [others m same]
    exact h m

theorem LinksSound.congr (h : LinksSound s) (links : ∀ m, t.link m = s.link m) : LinksSound t :=
  fun m => by rw [links m]; exact h m

theorem LinksSound.onLink (h : LinksSound s) {f : Link → Link} (own : (f (s.link l)).Sound) :
    LinksSound (s.onLink l f) :=
  h.of_links l (fun _ other => State.otherLink_onLink f other) (by rw [State.link_onLink_self]; exact own)

theorem LinksSound.controls (h : LinksSound s)
    (links : ∀ m, t.link m = { s.link m with controlList := (t.link m).controlList }) : LinksSound t :=
  fun m => by rw [links m]; exact (h m).lists _ (s.link m).answerList (s.link m).lastDown (s.link m).helloDue _

theorem State.link_linkDown (s : State) (l : LinkNo) (cause : DownCause) :
    (s.linkDown l cause).link l =
      { s.link l with controlList := [], answerList := [], deadTimer := none, lastDown := some cause } := by
  unfold State.linkDown
  simp only [State.postLink_frame, State.link_onLink_self]

/-- A link after the cut of its frame, if it had one (R111, R148). -/
def Link.afterCut (x : Link) : Link :=
  match x.onLine with
  | none => x
  | some f =>
    { x with
      onLine := none
      transmitter := x.transmitter.cut
      cutDelimiters := x.cutDelimiters + 1
      loopPath := if x.config.loopback then x.cutPath f else x.loopPath }

theorem State.link_cutFrame_eq (s : State) (l : LinkNo) : (s.cutFrame l).link l = (s.link l).afterCut := by
  unfold Link.afterCut
  split
  · rename_i free; simp [State.cutFrame, free]
  · rename_i f sending; exact State.link_cutFrame s l sending

theorem Link.Sound.afterCut {x : Link} (h : x.Sound) : x.afterCut.Sound ∧ x.afterCut.onLine = none := by
  unfold Link.afterCut
  split
  · rename_i free; exact ⟨h, free⟩
  · rename_i f sending; exact ⟨h.cut sending, rfl⟩

/-- The lists and the dead timer of a link are no part of a cut. -/
theorem Link.afterCut_down (x : Link) (cause : Option DownCause) :
    Link.afterCut { x with controlList := [], answerList := [], deadTimer := none, lastDown := cause } =
      { x.afterCut with controlList := [], answerList := [], deadTimer := none, lastDown := cause } := by
  cases sending : x.onLine <;> simp only [Link.afterCut, sending] <;> rfl

theorem State.link_stopLink (s : State) (l : LinkNo) :
    (s.stopLink l).link l = Link.huntEmpty { (s.link l).afterCut with
      state := .stopped, helloDue := false, helloTimer := none, deadTimer := none } := by
  unfold State.stopLink
  rw [State.link_onLink_self, State.link_cutFrame_eq]

theorem LinksSound.move (move : Move l s t) (h : LinksSound s) : LinksSound t := by
  refine h.of_links l (fun m other => move.otherLink other) ?_
  cases move with
  | tweak tweak =>
    cases tweak with
    | link tweak => rw [State.link_setLink_self]; exact (h l).tweak tweak
    | post => exact h l
    | record _ _ _ rewrites => exact LinksSound.controls h rewrites.link l
    | collectCircuit => exact h l
    | collectLink => exact h l
  | work work => rw [State.link_setLink_self]; exact (h l).work work
  | record _ _ _ _ rewrites => exact LinksSound.controls h rewrites.link l
  | opens _ _ _ steps =>
    have reached : LinksSound _ := kept_of_row (P := LinksSound) (fun step h => by
      obtain ⟨_, _, _, _, _, _, _, rewrites⟩ := step
      exact LinksSound.controls h rewrites.link) steps h
    exact reached l
  | answer item =>
    rw [State.link_answer]
    split
    · exact (h l).lists (s.link l).controlList _ (s.link l).lastDown (s.link l).helloDue (s.link l).lastServed
    · exact h l
  | loses cause n epoch =>
    rw [State.link_onLink_self, State.link_linkDown]
    have seeks := (h l).seek n epoch
    exact ⟨seeks.dead, seeks.epoch, seeks.transmitter, seeks.receiver, seeks.path, seeks.stopped⟩
  | stops cause =>
    rw [State.link_stopLink, State.link_linkDown, Link.afterCut_down]
    obtain ⟨sound, free⟩ := (h l).afterCut
    have stopped := sound.stop free
    exact ⟨stopped.dead, stopped.epoch, stopped.transmitter, stopped.receiver, stopped.path, stopped.stopped⟩
  | halts =>
    rw [State.link_stopLink]
    obtain ⟨sound, free⟩ := (h l).afterCut
    exact sound.stop free
  | endsFrame _ begun =>
    unfold State.endFrame
    rw [State.link_onLink_self, State.link_clearLine]
    exact (h l).endFrame begun

theorem LinksSound.once (once : Once i l s t) (h : LinksSound s) : LinksSound t := by
  cases once with
  | allocates _ _ first _ allocates =>
    exact (kept_of_row (P := LinksSound) (fun step h => LinksSound.move step h) first h).controls allocates.link
  | frees _ _ frees => exact h.controls frees.link
  | accepts _ _ _ rewrites => exact h.controls rewrites.link
  | offers _ _ rewrites => exact h.controls rewrites.link
  | delivers _ _ _ _ rewrites => exact h.controls rewrites.link

theorem LinksSound.startFrame {f : Frame} (h : LinksSound s) (runs : (s.link l).state ≠ .stopped)
    (free : (s.link l).onLine = none) : LinksSound (s.startFrame l f) :=
  LinksSound.onLink h (f := fun x => x.started f) ((h l).started f runs free)

theorem LinksSound.start (start : Start l s t) (h : LinksSound s) : LinksSound t := by
  cases start with
  | busy => exact h
  | idle => exact h
  | @drops c rest =>
    exact h.onLink ((h l).lists rest (s.link l).answerList (s.link l).lastDown (s.link l).helloDue (s.link l).lastServed)
  | hello runs free =>
    have prepared : LinksSound (s.onLink l fun x => { x with helloDue := false }) := h.onLink
      ((h l).lists (s.link l).controlList (s.link l).answerList (s.link l).lastDown _ (s.link l).lastServed)
    exact prepared.startFrame (by simpa using runs) (by simpa using free)
  | @control c r k rest runs free =>
    have written : LinksSound (s.setRecord c (some (r.afterFrame s.settings.retryMs k))) := h
    refine LinksSound.startFrame (LinksSound.onLink written ?_) (by simpa using runs) (by simpa using free)
    exact (h l).lists _ (s.link l).answerList (s.link l).lastDown (s.link l).helloDue (s.link l).lastServed
  | @answer item rest runs free =>
    have prepared : LinksSound (s.onLink l fun x => { x with answerList := rest }) := h.onLink
      ((h l).lists (s.link l).controlList rest (s.link l).lastDown (s.link l).helloDue (s.link l).lastServed)
    exact prepared.startFrame (by simpa using runs) (by simpa using free)
  | @data u c r p payload rest runs free _ _ _ rewrites =>
    have sent : LinksSound u := h.controls rewrites.link
    have paid : LinksSound { u with txFree := u.txFree - 1 } := sent
    refine LinksSound.startFrame (LinksSound.onLink paid ?_) ?_ ?_
    · exact (sent l).lists (u.link l).controlList (u.link l).answerList (u.link l).lastDown (u.link l).helloDue _
    · rw [State.link_onLink_self, State.link_with_txFree, rewrites.link l]
      exact runs
    · rw [State.link_onLink_self, State.link_with_txFree, rewrites.link l]
      exact free

theorem Link.Sound.clear {x : Link} (h : x.Sound) (n : Nat) : (x.clear n).Sound := by
  have served := h.lists x.controlList x.answerList x.lastDown x.helloDue (Vector.replicate 4 63)
  unfold Link.clear
  dsimp only
  split
  · exact served
  · exact (served.seek n 0).lists [] [] x.lastDown true _

theorem Link.sound_of_stopped {x : Link} (state : x.state = .stopped) (dead : x.deadTimer = none)
    (transmitter : x.transmitter = .idle) (line : x.onLine = none) (cut : x.cutDelimiters = 0)
    (receiver : ∀ cfg, x.receiver ≠ .receiving cfg) (path : x.loopPath = []) : x.Sound :=
  ⟨by simp [dead, Link.isUp, state], fun runs => absurd state runs, by simp [Link.transmitterFits, transmitter, line, cut],
    Link.receiverFits_of_not_receiving receiver, fun _ => path, fun _ => line⟩

theorem LinksSound.resetn (s : State) (rxd : Vector LineLevel 4) : LinksSound (s.resetn rxd) := by
  intro m
  rw [State.link_resetn]
  exact Link.sound_of_stopped rfl rfl rfl rfl rfl (fun _ => receiverAt_not_receiving _ _ _) rfl

theorem LinksSound.powers (s : State) (low : Bool) (rxd : Vector LineLevel 4) : LinksSound (s.endPowerHold low rxd) := by
  intro m
  rw [State.link_endPowerHold]
  have watching (cfg : LineConfig) := receiverAt_not_receiving false rxd[m] cfg
  exact Link.sound_of_stopped rfl rfl rfl rfl rfl watching rfl

theorem kept_linksSound : Kept LinksSound where
  window _ h := h
  move := LinksSound.move
  once := LinksSound.once
  start := LinksSound.start
  release _ frees h := LinksSound.controls h frees.link
  services _ h := h
  cleared h m := by
    rw [State.link_cleared]
    exact (h m).clear _
  resets rxd _ := .resetn _ rxd
  released _ h := h
  rises rxd _ := .resetn _ rxd
  powers low rxd _ := .powers _ low rxd

/-! ### The hold -/

theorem HoldLaw.of_running (held : t.held = false) (powering : t.powering = false) : HoldLaw t :=
  ⟨fun on => by simp [powering] at on, fun on => by simp [held] at on⟩

theorem State.SameOutside.removeService (b s : State) (number : Byte) :
    s.SameOutside (State.afterReturns b (s.removeService number)) :=
  .of_frame (outside := by simp [State.outside, State.removeService]) (held := by simp [State.removeService])
    (powering := by simp [State.removeService])

theorem State.SameOutside.boundaries (s : State) : s.SameOutside s.boundaries :=
  .of_frame

theorem State.SameOutside.cleared (s : State) : s.SameOutside s.cleared := ⟨rfl, rfl, rfl⟩

theorem HoldLaw.resetn (s : State) (rxd : Vector LineLevel 4) : HoldLaw (s.resetn rxd) :=
  ⟨fun _ => rfl, fun _ => ⟨rfl, record_freeAll rfl, fun m => by
    rw [State.link_resetn]; exact ⟨rfl, rfl, rfl, rfl⟩⟩⟩

theorem HoldLaw.enterPowerHold (s : State) (rxd : Vector LineLevel 4) : HoldLaw (s.enterPowerHold rxd) :=
  ⟨fun _ => rfl, ((HoldLaw.resetn s rxd).2 : _ → _)⟩

theorem HoldLaw.endPowerHold (s : State) (low : Bool) (rxd : Vector LineLevel 4) :
    HoldLaw (s.endPowerHold low rxd) :=
  ⟨nofun, fun _ => ⟨rfl, record_reset rfl, fun m => by
    rw [State.link_endPowerHold]; exact ⟨rfl, rfl, rfl, rfl⟩⟩⟩

theorem HoldLaw.event (event : Event i s t) (h : HoldLaw s) : HoldLaw t := by
  have running (off : s.held = false) : s.powering = false := Bool.eq_false_iff.2 fun on => by
    simp [h.1 on] at off
  have same {u : State} (off : s.held = false) (kept : s.SameOutside u) (w : Outside) :
      HoldLaw (u.withOutside w) :=
    .of_running (kept.held.trans off) (kept.powering.trans (running off))
  cases event with
  | skip => exact h
  | window w off => exact same off (.refl s) w
  | quiet l w off _ tweaks => exact same off (State.sameOutside_of_row Tweak.sameOutside tweaks) w
  | claim l b w off _ claim tweaks =>
    exact same off ((claim.sameOutside.trans (.finishClaim b _ l)).trans
      (State.sameOutside_of_row Tweak.sameOutside tweaks)) w
  | release w off _ _ frees => exact same off frees.outside w
  | services w off => exact same off ⟨rfl, rfl, rfl⟩ w
  | withdraws number b w off _ moves =>
    have moved := State.sameOutside_of_row (fun step => step.elim fun _ => Move.sameOutside) moves
    exact same off ((moved.trans (.removeService b _ number)).trans (.boundaries _)) w
  | clears w off => exact same off ((State.SameOutside.cleared s).trans (.boundaries _)) w
  | resets lowNs rxd => exact .resetn s rxd
  | released _ byPin => exact .of_running rfl byPin
  | rises rxd => exact .enterPowerHold s rxd
  | powers low rxd => exact .endPowerHold s low rxd

/-! ### Peer numbers -/

theorem Record.holdsPeer_of_counted {p : Peer} (counted : r.phase.counted = true) (peer : r.peer = some p) :
    r.holdsPeer r.link p.circuit = true := by
  simp [Record.holdsPeer, counted, peer]

/-- At most one record of a link holds a peer number. -/
theorem peerLaw_iff : PeerLaw s ↔ ∀ (l : LinkNo) (p : Byte) (c d : CircuitNo) (r q : Record),
    s.record c = some r → s.record d = some q → r.holdsPeer l p = true → q.holdsPeer l p = true → d = c := by
  constructor
  · intro h l p c d r q hr hq holds shares
    obtain ⟨on, counted, peer, hpeer, rfl⟩ := Record.counted_of_holdsPeer holds
    exact h c r hr peer hpeer counted d q hq (on ▸ shares)
  · intro h c r hr p hp counted d q hq shares
    exact h r.link p.circuit c d r q hr hq (Record.holdsPeer_of_counted counted hp) shares

/-- Where every holder of a peer number held it before, the law stays. -/
theorem PeerLaw.of_holders (h : PeerLaw s)
    (holders : ∀ l p c r, t.record c = some r → r.holdsPeer l p = true →
      ∃ q, s.record c = some q ∧ q.holdsPeer l p = true) : PeerLaw t := by
  rw [peerLaw_iff] at h ⊢
  intro l p c d r q hr hq holds shares
  obtain ⟨r', hr', holds'⟩ := holders l p c r hr holds
  obtain ⟨q', hq', shares'⟩ := holders l p d q hq shares
  exact h l p c d r' q' hr' hq' holds' shares'

theorem PeerLaw.congr (h : PeerLaw s) (record : ∀ d, t.record d = s.record d) : PeerLaw t :=
  h.of_holders fun _ _ c r hr holds => ⟨r, record c ▸ hr, holds⟩

/-- One record is written that holds no peer number it did not hold. -/
theorem PeerLaw.written (h : PeerLaw s) (before : s.record c = some r)
    (record : ∀ d, t.record d = if d = c then some r' else s.record d)
    (holds : ∀ l p, r'.holdsPeer l p = true → r.holdsPeer l p = true) : PeerLaw t := by
  refine h.of_holders fun l p d q hq holder => ?_
  rw [record] at hq
  split at hq
  · rename_i same
    cases hq
    exact ⟨r, same ▸ before, holds l p holder⟩
  · exact ⟨q, hq, holder⟩

theorem Record.holdsPeer_congr {l : LinkNo} {p : Byte} (link : r'.link = r.link) (peer : r'.peer = r.peer)
    (counted : r'.phase.counted = true → r.phase.counted = true) (holds : r'.holdsPeer l p = true) :
    r.holdsPeer l p = true := by
  unfold Record.holdsPeer at holds ⊢
  rw [link, peer] at holds
  simp only [Bool.and_eq_true] at holds ⊢
  exact ⟨⟨holds.1.1, counted holds.1.2⟩, holds.2⟩

theorem Record.Change.peer (change : r.Change r') (counted : r'.phase.counted = true → r.phase.counted = true) :
    r'.peer = r.peer := by
  cases change with
  | opens calling =>
    have was := counted rfl
    simp [calling, Phase.counted] at was
  | _ => rfl

theorem PeerLaw.change {k : Option CircuitNotice} (change : r.Change r') (rewrites : s.Rewrites t c r r' k)
    (counted : r'.phase.counted = true → r.phase.counted = true) (h : PeerLaw s) : PeerLaw t :=
  h.written rewrites.before rewrites.record fun _ _ =>
    Record.holdsPeer_congr rewrites.linkNo (change.peer counted) counted

theorem Record.holdsPeer_supersededIf {b : Bool} {l : LinkNo} {p : Byte}
    (holds : (r.supersededIf b).holdsPeer l p = true) : b = false ∧ r.holdsPeer l p = true := by
  cases b with
  | false => exact ⟨rfl, holds⟩
  | true => simp [Record.supersededIf, Record.atEnd, Record.holdsPeer, Phase.counted] at holds

theorem PeerLaw.opens {peer : Peer} (h : PeerLaw s) (taken : r'.link = l ∧ r'.peer = some peer)
    (record : ∀ d, t.record d = if d = c then some r' else
      (s.record d).map fun q => q.supersededIf (q.holdsPeer l peer.circuit)) : PeerLaw t := by
  rw [peerLaw_iff] at h ⊢
  have other {m : LinkNo} {p : Byte} {d : CircuitNo} {q : Record} (hd : d ≠ c) (hq : t.record d = some q)
      (holds : q.holdsPeer m p = true) :
      ∃ q', s.record d = some q' ∧ q'.holdsPeer m p = true ∧ q'.holdsPeer l peer.circuit = false := by
    rw [record, if_neg hd, Option.map_eq_some_iff] at hq
    obtain ⟨q', hq', rfl⟩ := hq
    obtain ⟨unsuperseded, holder⟩ := Record.holdsPeer_supersededIf holds
    exact ⟨q', hq', holder, unsuperseded⟩
  have own {m : LinkNo} {p : Byte} {q : Record} (hq : t.record c = some q) (holds : q.holdsPeer m p = true) :
      m = l ∧ p = peer.circuit := by
    rw [record, if_pos rfl] at hq
    cases hq
    obtain ⟨on, -, p', hp', rfl⟩ := Record.counted_of_holdsPeer holds
    rw [taken.2] at hp'
    cases hp'
    exact ⟨on.symm.trans taken.1, rfl⟩
  intro m p d e r q hr hq holds shares
  by_cases first : d = c
  · by_cases second : e = c
    · rw [first, second]
    · subst first
      obtain ⟨rfl, rfl⟩ := own hr holds
      obtain ⟨_, _, holder, unsuperseded⟩ := other second hq shares
      simp [holder] at unsuperseded
  · by_cases second : e = c
    · subst second
      obtain ⟨rfl, rfl⟩ := own hq shares
      obtain ⟨_, _, holder, unsuperseded⟩ := other first hr holds
      simp [holder] at unsuperseded
    · obtain ⟨r', hr', holds', -⟩ := other first hr holds
      obtain ⟨q', hq', shares', -⟩ := other second hq shares
      exact h m p d e r' q' hr' hq' holds' shares'

theorem PeerLaw.move (move : Move l s t) (h : PeerLaw s) : PeerLaw t := by
  have records (same : ∀ d, t.record d = s.record d) : PeerLaw t := h.congr same
  cases move with
  | tweak tweak =>
    cases tweak with
    | link => exact h
    | post => exact h
    | record _ change quiet rewrites => exact h.change change rewrites quiet.counted
    | collectCircuit => exact h
    | collectLink => exact h
  | work => exact h
  | record _ change counted _ rewrites => exact h.change change rewrites counted
  | opens _ _ taken _ record => exact h.opens taken record
  | answer => exact h
  | loses => exact h
  | stops => exact records (by simp [State.stopLink, State.linkDown])
  | halts => exact records (by simp [State.stopLink])
  | endsFrame => exact records (by simp)

theorem Record.offerLimit_peer (r : Record) (n : Nat) (limit : Word) : (r.offerLimit n limit).peer = r.peer := by
  unfold Record.offerLimit
  split <;> rfl

/-- An allocated record is the one holder of its peer number. -/
theorem PeerLaw.allocates {a : Allocation} {o : Owed} {k : Option CircuitNotice} (h : PeerLaw s) (on : a.link = l)
    (unique : ∀ p, a.peer = some p → ∀ d q, s.record d = some q → q.holdsPeer l p.circuit = false)
    (allocates : s.Allocates t c a o k) : PeerLaw t := by
  rw [peerLaw_iff] at h ⊢
  have old {d : CircuitNo} {q : Record} (hd : d ≠ c) (hq : t.record d = some q) : s.record d = some q := by
    rwa [allocates.record, if_neg hd] at hq
  have alone {m : LinkNo} {p : Byte} {d : CircuitNo} {r q : Record} (hr : t.record c = some r)
      (holds : r.holdsPeer m p = true) (hq : s.record d = some q) : q.holdsPeer m p = false := by
    rw [allocates.record, if_pos rfl] at hr
    cases hr
    obtain ⟨linked, -, peer, hpeer, rfl⟩ := Record.counted_of_holdsPeer holds
    have link : l = m := on.symm.trans linked
    exact link ▸ unique peer hpeer d q hq
  intro m p d e r q hr hq holds shares
  by_cases first : d = c
  · by_cases second : e = c
    · rw [first, second]
    · subst first
      simp [alone hr holds (old second hq)] at shares
  · by_cases second : e = c
    · subst second
      simp [alone hq shares (old first hr)] at holds
    · exact h m p d e r q (old first hr) (old second hq) holds shares

theorem PeerLaw.once (once : Once i l s t) (h : PeerLaw s) : PeerLaw t := by
  cases once with
  | allocates on _ first unique allocates =>
    have reached := kept_of_row (P := PeerLaw) (fun step h => PeerLaw.move step h) first h
    exact reached.allocates on (unique h) allocates
  | frees _ _ frees =>
    refine h.of_holders fun l p d q hq holder => ?_
    rw [frees.record] at hq
    split at hq
    · cases hq
    · exact ⟨q, hq, holder⟩
  | accepts _ _ _ rewrites =>
    exact h.written rewrites.before rewrites.record fun _ _ => Record.holdsPeer_congr rfl rfl id
  | @offers _ _ r n limit _ _ rewrites =>
    obtain ⟨-, -, phase, -⟩ := Record.offerLimit_frame n r limit
    exact h.written rewrites.before rewrites.record fun _ _ =>
      Record.holdsPeer_congr rewrites.linkNo (r.offerLimit_peer n limit) (fun counted => phase ▸ counted)
  | delivers _ _ _ _ rewrites =>
    exact h.written rewrites.before rewrites.record fun _ _ => Record.holdsPeer_congr rfl rfl id

theorem Record.afterData_frame (r : Record) (n : Nat) (rest : List (List Byte)) :
    (r.afterData n rest).identity = r.identity ∧ (r.afterData n rest).peer = r.peer
      ∧ ((r.afterData n rest).phase = r.phase ∨
        r.phase = .draining ∧ (r.afterData n rest).phase = .closing .normal) := by
  unfold Record.afterData
  split
  · rename_i drained; exact ⟨rfl, rfl, .inr ⟨drained.1, rfl⟩⟩
  · exact ⟨rfl, rfl, .inl rfl⟩

theorem PeerLaw.start (start : Start l s t) (h : PeerLaw s) : PeerLaw t := by
  cases start with
  | busy => exact h
  | idle => exact h
  | drops => exact h
  | hello => exact h
  | @control c r k _ _ _ _ before =>
    obtain ⟨identity, phase, -, -, -, peer, -⟩ := r.afterFrame_frame s.settings.retryMs k
    simp only [Record.identity, Prod.mk.injEq] at identity
    exact h.written before (fun d => s.record_setRecord c d _) fun _ _ =>
      Record.holdsPeer_congr identity.2.1 peer fun counted => phase ▸ counted
  | answer => exact h
  | @data _ _ r _ _ rest _ _ before eligible _ rewrites =>
    obtain ⟨-, peer, -⟩ := r.afterData_frame s.settings.askMs rest
    have counted : r.phase.counted = true := Phase.counted_of_sendsData (Record.sends_of_eligible eligible).2
    have sent := h.written rewrites.before rewrites.record fun _ _ =>
      Record.holdsPeer_congr rewrites.linkNo peer fun _ => counted
    exact sent

theorem PeerLaw.of_free (free : ∀ c, s.record c = none) : PeerLaw s := by
  intro c r hr
  rw [free c] at hr
  cases hr

theorem kept_peerLaw : Kept PeerLaw where
  window _ h := h
  move := PeerLaw.move
  once := PeerLaw.once
  start := PeerLaw.start
  release _ frees h := PeerLaw.of_holders h fun _ _ _ q hq holder => by
    rw [frees.record] at hq
    split at hq
    · cases hq
    · exact ⟨q, hq, holder⟩
  services _ h := h
  cleared _ := .of_free (record_freeAll rfl)
  resets _ _ := .of_free (record_freeAll rfl)
  released _ h := h
  rises _ _ := .of_free (record_freeAll rfl)
  powers _ _ _ := .of_free (record_reset rfl)

/-- Settles O55: every form of an event keeps the peer numbers apart (`kept_peerLaw`), the links in order
(`kept_linksSound`) and the hold (`HoldLaw.event`). -/
theorem stepsKeepPeersUniqueAndEpochsInUse : Obligations.StepsKeepPeersUniqueAndEpochsInUse := by
  unfold Obligations.StepsKeepPeersUniqueAndEpochsInUse
  rintro s t ⟨peers, dead, epoch, lines, hold⟩ next
  have sound : LinksSound s := fun l =>
    let ⟨transmitter, receiver, path, stopped⟩ := lines l
    ⟨dead l, epoch l, transmitter, receiver, path, stopped⟩
  have after := kept_linksSound.step next sound
  refine ⟨kept_peerLaw.step next peers, fun l => (after l).dead, fun l => (after l).epoch,
    fun l => ⟨(after l).transmitter, (after l).receiver, (after l).path, (after l).stopped⟩, ?_⟩
  rcases event_of_step next with rfl | ⟨i, rest, event⟩
  · exact hold
  · exact HoldLaw.event event hold

end Sys2Proof.Machine
end

section
/-! PROOFS. The lists of the links, and that no IDLE transmitter of a running link has anything to send (R16, R101,
R102, R127, R134, R135). -/

namespace Sys2Proof.Machine

set_option Elab.async false

open Relation (ReflTransGen)

variable {s t u v : State} {l m : LinkNo} {c d : CircuitNo} {r r' q : Record} {i : Instr}

/-! ### The laws of the lists -/

/-- What a STOPPED link has not (R103, R130). -/
def Link.AtRest (x : Link) : Prop :=
  x.state = .stopped → x.onLine = none ∧ x.helloDue = false ∧ x.helloTimer = none ∧ x.deadTimer = none

/-- The laws of the lists of the links, but for what an IDLE transmitter leaves. -/
structure ListLaws (s : State) : Prop where
  control : ControlListLaw s
  owed : OwedLaw s
  live : LiveLinkLaw s
  answers : AnswerListLaw s
  atRest : ∀ l, (s.link l).AtRest

theorem ListLaws.isUp_of_runs (h : ListLaws s) (runs : s.Runs l) : (s.link l).isUp = true := by
  rcases runs with up | ⟨c, r, hr, rfl, live⟩
  · exact up
  · exact h.live c r hr live

theorem ListLaws.controlList_of_down (h : ListLaws s) (down : (s.link l).isUp = false) :
    (s.link l).controlList = [] := by
  refine List.eq_nil_iff_forall_not_mem.2 fun c hc => ?_
  obtain ⟨_, _, _, _, up⟩ := ((h.control l).2 c).1 hc
  simp [down] at up

/-- Whether a circuit of the table belongs on the control list of a link (R135). -/
def State.belongs (s : State) (l : LinkNo) (c : CircuitNo) : Prop :=
  ∃ r, s.record c = some r ∧ r.link = l ∧ r.owed.isEmpty = false ∧ (s.link l).isUp = true

theorem ListLaws.mem_control (h : ListLaws s) : c ∈ (s.link l).controlList ↔ s.belongs l c := by
  rw [(h.control l).2 c]
  simp [State.belongs]

theorem State.belongs_congr (record : t.record c = s.record c) (isUp : (t.link l).isUp = (s.link l).isUp) :
    t.belongs l c ↔ s.belongs l c := by
  unfold State.belongs
  rw [record, isUp]

/-- The control list of a link after a circuit of the link came from owing `before` to owing `after`. -/
theorem ControlMove.controlList {up : Bool} {before after : Owed} {xs ys : List CircuitNo}
    (move : ControlMove c up before after xs ys) (once : xs.Nodup)
    (mem : c ∈ xs ↔ before.isEmpty = false ∧ up = true) :
    ys.Nodup ∧ (c ∈ ys ↔ after.isEmpty = false ∧ up = true) ∧ ∀ d, d ≠ c → (d ∈ ys ↔ d ∈ xs) := by
  cases move with
  | stays same =>
    refine ⟨once, ?_, fun _ _ => Iff.rfl⟩
    rcases same with same | ⟨-, down⟩
    · rw [same]; exact mem
    · simpa [down] using mem
  | joins nothing running something =>
    have off : c ∉ xs := by simp [mem, nothing]
    refine ⟨?_, by simp [something, running], fun d other => by simp [other]⟩
    simpa [List.nodup_append, once] using fun a ha => ne_of_mem_of_not_mem ha off
  | leaves nothing =>
    exact ⟨once.filter _, by simp [nothing], fun d other => by simp [other]⟩

/-- The laws after circuit `c` of link `l`, and its place on the list of the link, have changed. -/
theorem ListLaws.changed {after : Owed} (h : ListLaws s)
    (records : ∀ d, d ≠ c → t.record d = s.record d)
    (link : ∀ m, t.link m = { s.link m with controlList := (t.link m).controlList })
    (otherLink : ∀ m, m ≠ l → t.link m = s.link m)
    (control : (t.link l).controlList.Nodup
      ∧ (c ∈ (t.link l).controlList ↔ after.isEmpty = false ∧ (s.link l).isUp = true)
      ∧ ∀ d, d ≠ c → (d ∈ (t.link l).controlList ↔ d ∈ (s.link l).controlList))
    (was : ∀ m, m ≠ l → ¬ s.belongs m c)
    (is : ∀ m, t.belongs m c ↔ m = l ∧ after.isEmpty = false ∧ (t.link m).isUp = true)
    (owed : ∀ r, t.record c = some r → r.link = l ∧ r.owed = after)
    (up : after.isEmpty = false → (s.link l).isUp = true)
    (live : ∀ r, t.record c = some r → r.phase.live = true → (s.link l).isUp = true) : ListLaws t := by
  have isUp (m : LinkNo) : (t.link m).isUp = (s.link m).isUp := by rw [link m]; rfl
  refine ⟨fun m => ?_, fun d r hr down => ?_, fun d r hr isLive => ?_, fun m => ?_, fun m => ?_⟩
  · have mem (d : CircuitNo) (other : d ≠ c) : t.belongs m d ↔ s.belongs m d :=
      State.belongs_congr (records d other) (isUp m)
    suffices (t.link m).controlList.Nodup ∧ ∀ d, d ∈ (t.link m).controlList ↔ t.belongs m d by
      simpa [State.belongs] using this
    by_cases own : m = l
    · subst own
      obtain ⟨once, self, others⟩ := control
      refine ⟨once, fun d => ?_⟩
      by_cases same : d = c
      · subst same
        rw [self, is m, isUp]
        exact (and_iff_right rfl).symm
      · rw [others d same, mem d same]
        exact h.mem_control
    · rw [otherLink m own]
      refine ⟨(h.control m).1, fun d => h.mem_control.trans ?_⟩
      by_cases same : d = c
      · subst same
        rw [is m]
        simp [own, was m own]
      · exact (mem d same).symm
  · rw [isUp] at down
    by_cases same : d = c
    · subst same
      obtain ⟨rfl, rfl⟩ := owed r hr
      by_contra some
      simp [up (Bool.eq_false_iff.2 some)] at down
    · exact h.owed d r ((records d same) ▸ hr) down
  · rw [isUp]
    by_cases same : d = c
    · subst same
      rw [(owed r hr).1]
      exact live r hr isLive
    · exact h.live d r ((records d same) ▸ hr) isLive
  · rw [link m]
    exact h.answers m
  · rw [link m]
    exact h.atRest m

theorem State.belongs_of_record (hr : s.record c = some r) :
    s.belongs m c ↔ m = r.link ∧ r.owed.isEmpty = false ∧ (s.link m).isUp = true := by
  constructor
  · rintro ⟨q, hq, on, something, up⟩
    rw [hr] at hq
    cases hq
    exact ⟨on.symm, something, up⟩
  · rintro ⟨on, something, up⟩
    exact ⟨r, hr, on.symm, something, up⟩

theorem ListLaws.mem_control_own (h : ListLaws s) (hr : s.record c = some r) :
    c ∈ (s.link r.link).controlList ↔ r.owed.isEmpty = false ∧ (s.link r.link).isUp = true := by
  rw [h.mem_control, State.belongs_of_record hr]
  exact and_iff_right rfl

theorem ListLaws.rewrites {k : Option CircuitNotice} (h : ListLaws s) (rewrites : s.Rewrites t c r r' k)
    (runs : r'.owed.isEmpty = false → r.owed.isEmpty = false ∨ s.Runs r.link) : ListLaws t := by
  have after := rewrites.after
  refine h.changed (fun d other => by rw [rewrites.record, if_neg other]) rewrites.link rewrites.otherLink
    (rewrites.control.controlList (h.control _).1 (h.mem_control_own rewrites.before))
    (fun m other belongs => other ((State.belongs_of_record rewrites.before).1 belongs).1)
    (fun m => rewrites.linkNo ▸ State.belongs_of_record after) (fun q hq => ?_) (fun something => ?_)
    (fun q hq live => ?_)
  · rw [after] at hq
    cases hq
    exact ⟨rewrites.linkNo, rfl⟩
  · rcases runs something with owing | running
    · by_contra down
      simp [h.owed c r rewrites.before (Bool.eq_false_iff.2 down)] at owing
    · exact h.isUp_of_runs running
  · rw [after] at hq
    cases hq
    exact h.live c r rewrites.before (rewrites.live live)

theorem ListLaws.allocates {a : Allocation} {o : Owed} {k : Option CircuitNotice} (h : ListLaws s)
    (allocates : s.Allocates t c a o k) : ListLaws t := by
  have after := allocates.after
  have own : Record.link { a.record with owed := o } = a.link := rfl
  have unlisted (m : LinkNo) : ¬ s.belongs m c := fun ⟨r, hr, _⟩ => by simp [allocates.free] at hr
  have off : c ∈ (s.link a.link).controlList ↔ Owed.isEmpty { } = false ∧ (s.link a.link).isUp = true := by
    rw [h.mem_control]
    simp [unlisted, Owed.isEmpty]
  refine h.changed (fun d other => by rw [allocates.record, if_neg other]) allocates.link allocates.otherLink
    (allocates.control.controlList (h.control _).1 off) (fun m _ => unlisted m) (fun m => own ▸ State.belongs_of_record after) (fun q hq => ?_)
    (fun _ => allocates.up) (fun _ _ _ => allocates.up)
  · rw [after] at hq
    cases hq
    exact ⟨rfl, rfl⟩

theorem ListLaws.frees (h : ListLaws s) (frees : s.Frees t c r) : ListLaws t := by
  have after : t.record c = none := (frees.record c).trans (if_pos rfl)
  have nothing : Owed.isEmpty { } = true := rfl
  have control : ControlMove c (s.link r.link).isUp r.owed { } (s.link r.link).controlList
      (t.link r.link).controlList := frees.control ▸ .leaves nothing
  refine h.changed (l := r.link) (after := { })
    (fun d other => by rw [frees.record, if_neg other]) frees.link frees.otherLink
    (control.controlList (h.control _).1 (h.mem_control_own frees.before))
    (fun m other belongs => other ((State.belongs_of_record frees.before).1 belongs).1) (fun m => ?_)
    (fun q hq => by simp [after] at hq) (fun something => by simp [nothing] at something)
    (fun q hq => by simp [after] at hq)
  simp [State.belongs, after, nothing]

/-! ### Changes of a link -/

/-- The laws read the records, and of the links what the laws themselves name. -/
theorem ListLaws.of_link (h : ListLaws s) (record : ∀ d, t.record d = s.record d)
    (otherLink : ∀ m, m ≠ l → t.link m = s.link m)
    (up : (t.link l).isUp = true → (s.link l).isUp = true ∨ (s.link l).controlList = [] ∧
      ∀ d r, s.record d = some r → r.link = l → r.owed.isEmpty = true)
    (down : (t.link l).isUp = false → ∀ d r, s.record d = some r → r.link = l →
      r.phase.live = false ∧ r.owed.isEmpty = true)
    (control : (t.link l).controlList = if (t.link l).isUp then (s.link l).controlList else [])
    (answers : (t.link l).answerList.length ≤ Config.answerCapacity
      ∧ ((t.link l).isUp = false → (t.link l).answerList = []))
    (atRest : (t.link l).AtRest) : ListLaws t := by
  refine ⟨fun m => ?_, fun d r hr low => ?_, fun d r hr live => ?_, fun m => ?_, fun m => ?_⟩
  · suffices (t.link m).controlList.Nodup ∧ ∀ d, d ∈ (t.link m).controlList ↔ t.belongs m d by
      simpa [State.belongs] using this
    by_cases own : m = l
    · subst own
      cases isUp : (t.link m).isUp with
      | false =>
        rw [control, isUp]
        exact ⟨List.nodup_nil, fun d => by simp [State.belongs, isUp]⟩
      | true =>
        rw [control, isUp]
        refine ⟨(h.control m).1, fun d => h.mem_control.trans ?_⟩
        rcases up isUp with running | ⟨-, nothing⟩
        · exact (State.belongs_congr (record d) (isUp.trans running.symm)).symm
        · unfold State.belongs
          constructor
          · rintro ⟨r, hr, on, some, -⟩
            simp [nothing d r hr on] at some
          · rintro ⟨r, hr, on, some, -⟩
            rw [record] at hr
            simp [nothing d r hr on] at some
    · rw [otherLink m own]
      refine ⟨(h.control m).1, fun d => h.mem_control.trans ?_⟩
      exact (State.belongs_congr (record d) (by rw [otherLink m own])).symm
  · rw [record] at hr
    by_cases own : r.link = l
    · exact (down (own ▸ low) d r hr own).2
    · rw [otherLink _ own] at low
      exact h.owed d r hr low
  · rw [record] at hr
    by_cases own : r.link = l
    · by_contra low
      have settled := down (own ▸ Bool.eq_false_iff.2 low) d r hr own
      simp [live] at settled
    · rw [otherLink _ own]
      exact h.live d r hr live
  · by_cases own : m = l
    · exact own ▸ answers
    · rw [otherLink m own]
      exact h.answers m
  · by_cases own : m = l
    · exact own ▸ atRest
    · rw [otherLink m own]
      exact h.atRest m

theorem ListLaws.settled_of_down (h : ListLaws s) (low : (s.link l).isUp = false) (d : CircuitNo) (r : Record)
    (hr : s.record d = some r) (on : r.link = l) : r.phase.live = false ∧ r.owed.isEmpty = true := by
  subst on
  refine ⟨Bool.eq_false_iff.2 fun live => ?_, h.owed d r hr low⟩
  simp [h.live d r hr live] at low

/-- A link that is UP or not as before, with its lists as before or an answer more. -/
theorem ListLaws.of_same (h : ListLaws s) (record : ∀ d, t.record d = s.record d)
    (otherLink : ∀ m, m ≠ l → t.link m = s.link m) (isUp : (t.link l).isUp = (s.link l).isUp)
    (control : (t.link l).controlList = (s.link l).controlList)
    (answers : (t.link l).answerList.length ≤ Config.answerCapacity
      ∧ ((t.link l).isUp = false → (t.link l).answerList = []))
    (atRest : (t.link l).AtRest) : ListLaws t := by
  refine h.of_link record otherLink (fun up => .inl (isUp ▸ up)) (fun low => h.settled_of_down (isUp ▸ low)) ?_
    answers atRest
  rw [control, isUp]
  split
  · rfl
  · rename_i low
    exact h.controlList_of_down (Bool.eq_false_iff.2 low)

/-- A link that is UP no more, with its circuits settled and its lists empty. -/
theorem ListLaws.of_down (h : ListLaws s) (record : ∀ d, t.record d = s.record d)
    (otherLink : ∀ m, m ≠ l → t.link m = s.link m)
    (settled : ∀ d r, s.record d = some r → r.link = l → r.phase.live = false ∧ r.owed.isEmpty = true)
    (low : (t.link l).isUp = false) (control : (t.link l).controlList = []) (answers : (t.link l).answerList = [])
    (atRest : (t.link l).AtRest) : ListLaws t := by
  refine h.of_link record otherLink (fun up => by simp [low] at up) (fun _ => settled) ?_ ?_ atRest
  · simp [low, control]
  · simp [answers]

theorem Link.Tweak.lists {x y : Link} (tweak : x.Tweak y) :
    y.state = x.state ∧ y.controlList = x.controlList ∧ y.answerList = x.answerList ∧ y.helloDue = x.helloDue
      ∧ y.onLine = x.onLine ∧ (x.AtRest → y.AtRest) := by
  cases tweak with
  | configures cfg lines =>
    unfold Link.configure
    split <;> exact ⟨rfl, rfl, rfl, rfl, rfl, id⟩
  | idles n up =>
    refine ⟨rfl, rfl, rfl, rfl, rfl, fun _ stopped => ?_⟩
    change x.state = .stopped at stopped
    simp [Link.isUp, stopped] at up
  | _ => exact ⟨rfl, rfl, rfl, rfl, rfl, id⟩

theorem Link.isUp_congr {x y : Link} (state : y.state = x.state) : y.isUp = x.isUp := by
  rw [Link.isUp, state, Link.isUp]

theorem Link.atRest_of_running {x : Link} (runs : x.state ≠ .stopped) : x.AtRest := fun stopped => absurd stopped runs

theorem ListLaws.tweak (tweak : Tweak l s t) (h : ListLaws s) : ListLaws t := by
  cases tweak with
  | link tweak =>
    obtain ⟨state, control, answers, -, -, rest⟩ := tweak.lists
    refine h.of_same (l := l) (fun _ => rfl) (fun m other => State.link_setLink_ne s _ other) ?_ ?_ ?_ ?_
    · rw [State.link_setLink_self, Link.isUp_congr state]
    · rw [State.link_setLink_self, control]
    · rw [State.link_setLink_self, Link.isUp_congr state, answers]
      exact h.answers l
    · rw [State.link_setLink_self]
      exact rest (h.atRest l)
  | post => exact ⟨h.control, h.owed, h.live, h.answers, h.atRest⟩
  | record _ _ quiet rewrites => exact h.rewrites rewrites fun something => .inl (quiet.owed ▸ something)
  | collectCircuit => exact ⟨h.control, h.owed, h.live, h.answers, h.atRest⟩
  | collectLink => exact ⟨h.control, h.owed, h.live, h.answers, h.atRest⟩

theorem ListLaws.recordStep (step : RecordStep l s t) (h : ListLaws s) : ListLaws t := by
  obtain ⟨_, _, _, _, on, _, runs, rewrites⟩ := step
  exact h.rewrites rewrites (on ▸ runs)

theorem ListLaws.work {x : Link} (work : (s.link l).Work x) (h : ListLaws s) : ListLaws (s.setLink l x) := by
  have others (m : LinkNo) (other : m ≠ l) : (s.setLink l x).link m = s.link m := State.link_setLink_ne s x other
  have own := State.link_setLink_self s l x
  have answers := h.answers l
  have empty (low : (s.link l).isUp = false) := h.controlList_of_down low
  cases work with
  | starts n stopped =>
    have low : (s.link l).isUp = false := by simp [Link.isUp, stopped]
    refine h.of_down (l := l) (fun _ => rfl) others (h.settled_of_down low) ?_ ?_ ?_ ?_
    · rw [own]; rfl
    · rw [own]; exact empty low
    · rw [own]; exact answers.2 low
    · rw [own]; exact Link.atRest_of_running nofun
  | hears n up =>
    refine h.of_same (l := l) (fun _ => rfl) others ?_ ?_ ?_ ?_
    · rw [own]; rfl
    · rw [own]
    · rw [own]; exact answers
    · rw [own]; exact Link.atRest_of_running fun stopped => by simp [Link.isUp, show (s.link l).state = _ from stopped] at up
  | notes epoch seeking =>
    refine h.of_same (l := l) (fun _ => rfl) others ?_ ?_ ?_ ?_
    · rw [own]; rfl
    · rw [own]
    · rw [own]; exact answers
    · rw [own]; exact Link.atRest_of_running (by simp [seeking])
  | comesUp epoch n seeking =>
    have low : (s.link l).isUp = false := by simp [Link.isUp, seeking]
    refine h.of_link (l := l) (fun _ => rfl) others (fun _ => .inr ⟨empty low, fun d r hr on =>
      (h.settled_of_down low d r hr on).2⟩) (fun down => ?_) ?_ ?_ ?_
    · rw [own] at down
      simp [Link.isUp] at down
    · rw [own]; rfl
    · rw [own]; exact ⟨answers.1, fun _ => answers.2 low⟩
    · rw [own]; exact Link.atRest_of_running nofun
  | dueHello timer running =>
    refine h.of_same (l := l) (fun _ => rfl) others ?_ ?_ ?_ ?_
    · rw [own]; rfl
    · rw [own]
    · rw [own]; exact answers
    · rw [own]; exact Link.atRest_of_running running

theorem ListLaws.stopLink (h : ListLaws s) (record : ∀ d, t.record d = s.record d)
    (otherLink : ∀ m, m ≠ l → t.link m = s.link m)
    (settled : ∀ d r, s.record d = some r → r.link = l → r.phase.live = false ∧ r.owed.isEmpty = true)
    (control : (t.link l).controlList = []) (answers : (t.link l).answerList = []) : ListLaws (t.stopLink l) := by
  have own := State.link_stopLink t l
  have kept : (t.link l).afterCut.controlList = (t.link l).controlList
      ∧ (t.link l).afterCut.answerList = (t.link l).answerList ∧ (t.link l).afterCut.onLine = none := by
    unfold Link.afterCut
    split
    · rename_i free; exact ⟨rfl, rfl, free⟩
    · exact ⟨rfl, rfl, rfl⟩
  refine h.of_down (l := l) (fun d => ?_) (fun m other => ?_) settled ?_ ?_ ?_ ?_
  · rw [← record]; simp [State.stopLink]
  · rw [← otherLink m other]
    exact (State.otherLink_onLink _ other).trans (State.otherLink_cutFrame other)
  · rw [own]; rfl
  · rw [own]; exact kept.1.trans control
  · rw [own]; exact kept.2.1.trans answers
  · rw [own]; exact fun _ => ⟨kept.2.2, rfl, rfl, rfl⟩

theorem ListLaws.move (move : Move l s t) (h : ListLaws s) : ListLaws t := by
  cases move with
  | tweak tweak => exact h.tweak tweak
  | work work => exact h.work work
  | record on _ _ runs rewrites => exact h.rewrites rewrites (on ▸ runs)
  | opens _ _ _ steps =>
    have reached := kept_of_row (P := ListLaws) (fun step h => ListLaws.recordStep step h) steps h
    exact ⟨reached.control, reached.owed, reached.live, reached.answers, reached.atRest⟩
  | answer item runs =>
    have up := h.isUp_of_runs runs
    refine h.of_same (l := l) (by simp) (fun m other => State.otherLink_onLink _ other) ?_ ?_ ?_ ?_
    · rw [State.link_answer]; split <;> rfl
    · rw [State.link_answer]; split <;> rfl
    · rw [State.link_answer]
      split
      · rename_i room
        exact ⟨by simpa using room.2, fun low => by simp [Link.isUp] at low up; exact absurd up low⟩
      · exact h.answers l
    · rw [State.link_answer]
      have runs : (s.link l).state ≠ .stopped := fun stopped => by simp [Link.isUp, stopped] at up
      split <;> exact Link.atRest_of_running runs
  | loses cause n epoch up settled =>
    have own := State.link_onLink_self (s.linkDown l cause) l fun x => x.seek n epoch
    rw [State.link_linkDown] at own
    refine h.of_down (l := l) (fun d => ?_) (fun m other => ?_) (fun d r hr on => ?_) ?_ ?_ ?_ ?_
    · simp [State.linkDown]
    · exact (State.otherLink_onLink _ other).trans (State.otherLink_linkDown cause other)
    · obtain ⟨ended, owed⟩ := settled d r hr on
      exact ⟨ended, by rw [owed]; rfl⟩
    · rw [own]; rfl
    · rw [own]; rfl
    · rw [own]; rfl
    · rw [own]; exact Link.atRest_of_running nofun
  | stops cause up settled =>
    refine h.stopLink (fun d => ?_) (fun m other => State.otherLink_linkDown cause other) (fun d r hr on => ?_) ?_ ?_
    · simp [State.linkDown]
    · obtain ⟨ended, owed⟩ := settled d r hr on
      exact ⟨ended, by rw [owed]; rfl⟩
    · rw [State.link_linkDown]
    · rw [State.link_linkDown]
  | halts seeking =>
    have low : (s.link l).isUp = false := by simp [Link.isUp, seeking]
    exact h.stopLink (fun _ => rfl) (fun _ _ => rfl) (h.settled_of_down low) (h.controlList_of_down low)
      ((h.answers l).2 low)
  | endsFrame =>
    have own : (s.endFrame l).link l = { s.link l with onLine := none, transmitter := .idle } := by
      unfold State.endFrame
      rw [State.link_onLink_self, State.link_clearLine]
    refine h.of_same (l := l) (by simp)
      (fun m other => (State.otherLink_onLink _ other).trans (State.otherLink_clearLine other)) ?_ ?_ ?_ ?_
    · rw [own]; rfl
    · rw [own]
    · rw [own]; exact h.answers l
    · rw [own]; exact fun stopped => ⟨rfl, (h.atRest l stopped).2⟩

theorem ListLaws.once (once : Once i l s t) (h : ListLaws s) : ListLaws t := by
  cases once with
  | allocates _ _ first _ allocates =>
    have reached := kept_of_row (P := ListLaws) (fun step h => ListLaws.move step h) first h
    exact reached.allocates allocates
  | frees _ _ frees => exact h.frees frees
  | accepts _ _ _ rewrites => exact h.rewrites rewrites .inl
  | @offers _ _ r n limit _ _ rewrites =>
    obtain ⟨-, owed, -⟩ := r.offerLimit_frame n limit
    exact h.rewrites rewrites fun something => .inl (owed ▸ something)
  | delivers _ _ _ _ rewrites => exact h.rewrites rewrites .inl

/-! ### Frame starts -/

theorem ListLaws.startFrame {f : Frame} (h : ListLaws s) (runs : (s.link l).state ≠ .stopped) :
    ListLaws (s.startFrame l f) := by
  have own : (s.startFrame l f).link l = (s.link l).started f := State.link_onLink_self s l _
  refine h.of_same (l := l) (fun _ => rfl) (fun m other => State.otherLink_startFrame other) ?_ ?_ ?_ ?_
  · rw [own]; rfl
  · rw [own]; rfl
  · rw [own]; exact h.answers l
  · rw [own]; exact Link.atRest_of_running runs

/-- The circuit at the head of a control list, after one of its frames (R104). -/
theorem ListLaws.rotate {rest : List CircuitNo} (h : ListLaws s)
    (head : (s.link l).controlList = c :: rest) (before : s.record c = some r) (identity : r'.identity = r.identity) :
    ListLaws ((s.setRecord c (some r')).onLink l fun x =>
      { x with controlList := if r'.owed.isEmpty then rest else rest ++ [c] }) := by
  obtain ⟨q, hq, on, something, up⟩ := h.mem_control.1 (head ▸ List.mem_cons_self (a := c) (l := rest))
  rw [before] at hq
  cases hq
  have once : (c :: rest).Nodup := head ▸ (h.control l).1
  obtain ⟨off, others⟩ := List.nodup_cons.1 once
  simp only [Record.identity, Prod.mk.injEq] at identity
  have linked : r'.link = l := identity.2.1.trans on
  generalize listed : ((s.setRecord c (some r')).onLink l fun x =>
    { x with controlList := if r'.owed.isEmpty then rest else rest ++ [c] }) = t
  have after : t.record c = some r' := by rw [← listed]; exact State.record_setRecord_self s c (some r')
  have control : (t.link l).controlList = if r'.owed.isEmpty then rest else rest ++ [c] := by
    rw [← listed, State.link_onLink_self]
  refine h.changed (l := l) (fun d other => ?_) (fun m => ?_) (fun m other => ?_) ⟨?_, ?_, fun d other => ?_⟩
    (fun m other belongs => other (((State.belongs_of_record before).1 belongs).1.trans on))
    (fun m => linked ▸ State.belongs_of_record after) (fun q hq => ?_) (fun _ => up) (fun _ _ _ => up)
  · rw [← listed]
    exact State.record_setRecord_ne s (some r') other
  · rw [← listed, State.link_onLink]
    split
    · rename_i same; rw [same]; rfl
    · rfl
  · rw [← listed]
    exact State.otherLink_onLink _ other
  · rw [control]
    split
    · exact others
    · simpa [List.nodup_append, others] using fun a ha => ne_of_mem_of_not_mem ha off
  · rw [control]
    split
    · rename_i empty; simp [empty, off]
    · rename_i some; simp [some, up]
  · rw [control, head]
    split
    · simp [other]
    · simp [other]
  · rw [after] at hq
    cases hq
    exact ⟨linked, rfl⟩

theorem ListLaws.start (start : Start l s t) (h : ListLaws s) : ListLaws t := by
  cases start with
  | busy => exact h
  | idle => exact h
  | drops _ head nothing =>
    obtain ⟨q, hq, -, something, -⟩ := h.mem_control.1 (head ▸ List.mem_cons_self)
    simp [nothing q hq] at something
  | hello runs =>
    have prepared : ListLaws (s.onLink l fun x => { x with helloDue := false }) := by
      refine h.of_same (l := l) (fun _ => rfl) (fun m other => State.otherLink_onLink _ other) ?_ ?_ ?_ ?_
      · rw [State.link_onLink_self]; rfl
      · rw [State.link_onLink_self]
      · rw [State.link_onLink_self]; exact h.answers l
      · rw [State.link_onLink_self]; exact Link.atRest_of_running runs
    exact prepared.startFrame (by simpa using runs)
  | @control c r k rest runs _ head before =>
    obtain ⟨identity, -⟩ := r.afterFrame_frame s.settings.retryMs k
    exact (h.rotate head before identity).startFrame (by simpa using runs)
  | @answer item rest runs _ head =>
    have prepared : ListLaws (s.onLink l fun x => { x with answerList := rest }) := by
      refine h.of_same (l := l) (fun _ => rfl) (fun m other => State.otherLink_onLink _ other) ?_ ?_ ?_ ?_
      · rw [State.link_onLink_self]; rfl
      · rw [State.link_onLink_self]
      · rw [State.link_onLink_self]
        obtain ⟨few, none⟩ := h.answers l
        rw [head] at few none
        exact ⟨(Nat.le_succ _).trans few, fun low => by simpa using none low⟩
      · rw [State.link_onLink_self]; exact Link.atRest_of_running runs
    exact prepared.startFrame (by simpa using runs)
  | @data u c r p payload rest runs _ before eligible _ rewrites =>
    have on := (Record.sends_of_eligible eligible).1
    have live := Phase.live_of_sendsData (Record.sends_of_eligible eligible).2
    have sent := h.rewrites rewrites fun _ => .inr (State.runs_of_live before live)
    have turned : ListLaws ({ u with txFree := u.txFree - 1 }.onLink l fun x =>
        { x with lastServed := x.lastServed.set p c }) := by
      refine sent.of_same (l := l) (fun _ => rfl) (fun m other => State.otherLink_onLink _ other) ?_ ?_ ?_ ?_
      · rw [State.link_onLink_self]; rfl
      · rw [State.link_onLink_self]; rfl
      · rw [State.link_onLink_self]; exact sent.answers l
      · rw [State.link_onLink_self]; exact sent.atRest l
    refine turned.startFrame ?_
    rw [State.link_onLink_self, State.link_with_txFree, rewrites.link l]
    exact runs

/-! ### Clearing and resets -/

theorem ListLaws.of_free (free : ∀ c, s.record c = none) (lists : ∀ l, (s.link l).controlList = [])
    (answers : ∀ l, (s.link l).answerList = []) (atRest : ∀ l, (s.link l).AtRest) : ListLaws s := by
  have none {p : CircuitNo → Record → Prop} : s.everyRecord p := fun c r hr => by
    rw [free c] at hr
    cases hr
  refine ⟨fun l => ⟨by simp [lists l], fun c => ?_⟩, none, none, fun l => by simp [answers l], atRest⟩
  simp [lists l, free c]

theorem ListLaws.cleared (h : ListLaws s) : ListLaws s.cleared := by
  have link (m : LinkNo) : (s.cleared.link m).controlList = [] ∧ (s.cleared.link m).answerList = []
      ∧ (s.cleared.link m).AtRest := by
    rw [State.link_cleared]
    unfold Link.clear
    dsimp only
    split
    · rename_i stopped
      have low : (s.link m).isUp = false := by simp [Link.isUp, stopped]
      exact ⟨h.controlList_of_down low, (h.answers m).2 low, h.atRest m⟩
    · exact ⟨rfl, rfl, Link.atRest_of_running nofun⟩
  exact .of_free (record_freeAll rfl) (fun m => (link m).1) (fun m => (link m).2.1) fun m => (link m).2.2

theorem ListLaws.resetn (s : State) (rxd : Vector LineLevel 4) : ListLaws (s.resetn rxd) :=
  .of_free (record_freeAll rfl) (fun m => by rw [State.link_resetn]; rfl) (fun m => by rw [State.link_resetn]; rfl)
    fun m => by rw [State.link_resetn]; exact fun _ => ⟨rfl, rfl, rfl, rfl⟩

theorem ListLaws.powers (s : State) (low : Bool) (rxd : Vector LineLevel 4) : ListLaws (s.endPowerHold low rxd) :=
  .of_free (record_reset rfl) (fun m => by rw [State.link_endPowerHold]; rfl)
    (fun m => by rw [State.link_endPowerHold]; rfl)
    fun m => by rw [State.link_endPowerHold]; exact fun _ => ⟨rfl, rfl, rfl, rfl⟩

theorem kept_listLaws : Kept ListLaws where
  window _ h := ⟨h.control, h.owed, h.live, h.answers, h.atRest⟩
  move := ListLaws.move
  once := ListLaws.once
  start := ListLaws.start
  release _ frees h := ListLaws.frees h frees
  services _ h := ⟨h.control, h.owed, h.live, h.answers, h.atRest⟩
  cleared h := ListLaws.cleared h
  resets rxd _ := .resetn _ rxd
  released _ h := ⟨h.control, h.owed, h.live, h.answers, h.atRest⟩
  rises rxd _ :=
    have h := ListLaws.resetn _ rxd
    ⟨h.control, h.owed, h.live, h.answers, h.atRest⟩
  powers low rxd _ := .powers _ low rxd

/-! ### The IDLE transmitter -/

theorem mem_roundRobin (first c : CircuitNo) : c ∈ roundRobin first := by
  refine List.mem_map.2 ⟨c - first - 1, List.mem_finRange _, ?_⟩
  change first + 1 + (c - first - 1) = c
  abel

/-- No class serves a circuit exactly where no circuit of the link is eligible (R107). -/
theorem State.dataChoice_eq_none :
    s.dataChoice l = none ↔ ∀ c r, s.record c = some r → r.eligible l = false := by
  have choice (p : Fin 4) : s.classChoice l p = none ↔
      ∀ c r, s.record c = some r → r.priority = p → r.eligible l = false := by
    unfold State.classChoice
    simp only [List.find?_eq_none, mem_roundRobin, true_implies]
    refine forall_congr' fun c => ?_
    cases s.record c with
    | none => simp
    | some r => simp [imp.swap]
  unfold State.dataChoice
  simp only [List.findSome?_eq_none_iff, List.mem_finRange, true_implies, Option.map_eq_none_iff, choice]
  exact ⟨fun h c r hr => h r.priority c r hr rfl, fun h _ c r hr _ => h c r hr⟩

/-- Where its transmitter is IDLE a running link has nothing to send (R101, R102). -/
def State.IdleOn (s : State) (l : LinkNo) : Prop :=
  (s.link l).state ≠ .stopped → (s.link l).onLine = none →
    (s.link l).helloDue = false ∧ (s.link l).controlList = [] ∧ (s.link l).answerList = [] ∧ s.dataChoice l = none

theorem State.IdleOn.window (h : s.IdleOn m) (w : Outside) : (s.withOutside w).IdleOn m := h

theorem State.IdleOn.of_less (h : s.IdleOn m) (state : (t.link m).state = (s.link m).state)
    (onLine : (t.link m).onLine = (s.link m).onLine) (helloDue : (t.link m).helloDue = (s.link m).helloDue)
    (control : (s.link m).controlList = [] → (t.link m).controlList = [])
    (answers : (t.link m).answerList = (s.link m).answerList)
    (eligible : ∀ d q, t.record d = some q → q.eligible m = true →
      ∃ q', s.record d = some q' ∧ q'.eligible m = true) : t.IdleOn m := by
  intro runs free
  obtain ⟨hello, lists, items, data⟩ := h (state ▸ runs) (onLine ▸ free)
  refine ⟨helloDue.trans hello, control lists, answers.trans items, State.dataChoice_eq_none.2 fun d q hq => ?_⟩
  by_contra sends
  obtain ⟨q', hq', was⟩ := eligible d q hq (Bool.not_eq_false _ ▸ sends)
  simp [State.dataChoice_eq_none.1 data d q' hq'] at was

/-- A link whose own state and records are as they were is as idle as it was. -/
theorem State.IdleOn.of_same (h : s.IdleOn m) (link : t.link m = s.link m)
    (record : ∀ d q, t.record d = some q → q.link = m → s.record d = some q) : t.IdleOn m :=
  h.of_less (by rw [link]) (by rw [link]) (by rw [link]) (fun empty => by rw [link]; exact empty) (by rw [link])
    fun d q hq sends => ⟨q, record d q hq (Record.sends_of_eligible sends).1, sends⟩

/-- A circuit that owes what it owed does not come to an empty list. -/
theorem ControlMove.nil {up : Bool} {o : Owed} {ys : List CircuitNo} (h : ControlMove c up o o [] ys) : ys = [] := by
  cases h with
  | stays => rfl
  | joins nothing _ something => simp [nothing] at something
  | leaves => rfl

theorem State.IdleOn.quiet {k : Option CircuitNotice} (h : s.IdleOn m) (quiet : r.Quiet r')
    (rewrites : s.Rewrites t c r r' k) : t.IdleOn m := by
  have link := rewrites.link m
  refine h.of_less (by rw [link]) (by rw [link]) (by rw [link]) (fun empty => ?_) (by rw [link])
    fun d q hq sends => ?_
  · by_cases own : m = r.link
    · subst own
      have control := rewrites.control
      rw [quiet.owed, empty] at control
      exact control.nil
    · rw [rewrites.otherLink m own]
      exact empty
  · rw [rewrites.record] at hq
    split at hq
    · rename_i same
      cases hq
      exact ⟨r, same ▸ rewrites.before, (quiet.eligible m sends).1⟩
    · exact ⟨q, hq, sends⟩

theorem State.IdleOn.tweak (tweak : Tweak l s t) (h : s.IdleOn m) : t.IdleOn m := by
  cases tweak with
  | @link x tweak =>
    obtain ⟨state, control, answers, hello, line, -⟩ := tweak.lists
    by_cases own : m = l
    · subst own
      refine h.of_less ?_ ?_ ?_ (fun empty => ?_) ?_ fun d q hq sends => ⟨q, hq, sends⟩
      · rw [State.link_setLink_self, state]
      · rw [State.link_setLink_self, line]
      · rw [State.link_setLink_self, hello]
      · rw [State.link_setLink_self, control, empty]
      · rw [State.link_setLink_self, answers]
    · exact h.of_same (State.link_setLink_ne s x own) fun d q hq _ => hq
  | post => exact h
  | record _ _ quiet rewrites => exact h.quiet quiet rewrites
  | collectCircuit => exact h
  | collectLink => exact h

theorem State.IdleOn.roomStep (step : RoomStep s t) (h : s.IdleOn m) : t.IdleOn m := by
  obtain ⟨c, r, -, rewrites⟩ := step
  have quiet : r.Quiet { r with roomWanted := false } := ⟨rfl, fun _ sends => ⟨sends, rfl⟩, id⟩
  exact h.quiet quiet rewrites

theorem State.IdleOn.row {R : State → State → Prop} (step : ∀ {s t : State}, R s t → s.IdleOn m → t.IdleOn m)
    (row : ReflTransGen R s t) (h : s.IdleOn m) : t.IdleOn m :=
  kept_of_row (P := fun s => s.IdleOn m) step row h

/-! ### What a claim leaves on the other links -/

/-- Every record of another link after a move was there before. -/
def RecordsFrom (l : LinkNo) (s t : State) : Prop :=
  ∀ d q, t.record d = some q → q.link ≠ l → s.record d = some q

theorem RecordsFrom.trans (h : RecordsFrom l s t) (g : RecordsFrom l t u) : RecordsFrom l s u :=
  fun d q hq other => h d q (g d q hq other) other

theorem State.Rewrites.recordsFrom {k : Option CircuitNotice} (h : s.Rewrites t c r r' k) (on : r.link = l) :
    RecordsFrom l s t := by
  intro d q hq other
  rw [h.record] at hq
  split at hq
  · cases hq
    exact absurd (h.linkNo.trans on) other
  · exact hq

theorem RecordsFrom.of_row {R : State → State → Prop} (h : ∀ {s t}, R s t → RecordsFrom l s t)
    (row : ReflTransGen R s t) : RecordsFrom l s t := by
  induction row with
  | refl => exact fun _ _ hq _ => hq
  | tail _ last ih => exact ih.trans (h last)

theorem RecordStep.recordsFrom (h : RecordStep l s t) : RecordsFrom l s t := by
  obtain ⟨_, _, _, _, on, _, _, rewrites⟩ := h
  exact rewrites.recordsFrom on

theorem Move.recordsFrom (h : Move l s t) : RecordsFrom l s t := by
  have same (record : ∀ d, t.record d = s.record d) : RecordsFrom l s t := fun d q hq _ => record d ▸ hq
  cases h with
  | tweak tweak =>
    cases tweak with
    | record on _ _ rewrites => exact rewrites.recordsFrom on
    | _ => exact same fun _ => rfl
  | record on _ _ _ rewrites => exact rewrites.recordsFrom on
  | opens _ _ _ steps =>
    have row := RecordsFrom.of_row RecordStep.recordsFrom steps
    exact row
  | stops => exact same (by simp [State.stopLink, State.linkDown])
  | halts => exact same (by simp [State.stopLink])
  | endsFrame => exact same (by simp)
  | _ => exact same fun _ => rfl

theorem State.Allocates.recordsFrom {a : Allocation} {o : Owed} {k : Option CircuitNotice}
    (h : s.Allocates t c a o k) (on : a.link = l) : RecordsFrom l s t := by
  intro d q hq other
  rw [h.record] at hq
  split at hq
  · cases hq
    exact absurd on other
  · exact hq

theorem State.Frees.recordsFrom (h : s.Frees t c r) (l : LinkNo) : RecordsFrom l s t := by
  intro d q hq _
  rw [h.record] at hq
  split at hq
  · cases hq
  · exact hq

theorem Once.recordsFrom (h : Once i l s t) : RecordsFrom l s t := by
  cases h with
  | allocates on _ first _ allocates =>
    exact (RecordsFrom.of_row Move.recordsFrom first).trans (allocates.recordsFrom on)
  | frees _ _ frees => exact frees.recordsFrom l
  | accepts on _ _ rewrites => exact rewrites.recordsFrom on
  | offers on _ rewrites => exact rewrites.recordsFrom on
  | delivers on _ _ _ rewrites => exact rewrites.recordsFrom on

theorem Claim.recordsFrom (h : Claim i l s t) : RecordsFrom l s t := by
  cases h with
  | moves moves => exact .of_row Move.recordsFrom moves
  | once before once after =>
    exact (RecordsFrom.of_row Move.recordsFrom before).trans
      (once.recordsFrom.trans (.of_row Move.recordsFrom after))

theorem Claim.idleOn (claim : Claim i l s t) (other : m ≠ l) (h : s.IdleOn m) : t.IdleOn m :=
  h.of_same (claim.otherLink other) fun d q hq on => claim.recordsFrom d q hq (on ▸ other)

/-! ### What a boundary leaves -/

theorem Start.recordsFrom (start : Start l s t) (laws : ListLaws s) : RecordsFrom l s t := by
  cases start with
  | @control c r k _ _ _ head before =>
    obtain ⟨q, hq, on, -⟩ := laws.mem_control.1 (head ▸ List.mem_cons_self)
    rw [before] at hq
    cases hq
    obtain ⟨identity, -⟩ := r.afterFrame_frame s.settings.retryMs k
    simp only [Record.identity, Prod.mk.injEq] at identity
    intro d q hq other
    change (s.setRecord c _).record d = some q at hq
    rw [State.record_setRecord] at hq
    split at hq
    · cases hq
      exact absurd (identity.2.1.trans on) other
    · exact hq
  | data _ _ _ eligible _ rewrites =>
    have row := rewrites.recordsFrom (Record.sends_of_eligible eligible).1
    exact row
  | _ => exact fun _ _ hq _ => hq

theorem State.IdleOn.of_sending {f : Frame} : (s.startFrame l f).IdleOn l := by
  intro _ free
  have line : ((s.startFrame l f).link l).onLine = some f := by
    rw [State.startFrame_eq, State.link_onLink_self]; rfl
  rw [line] at free
  cases free

theorem Start.idleOn (start : Start l s t) (laws : ListLaws s) : t.IdleOn l := by
  cases start with
  | busy busy =>
    intro runs free
    rcases busy with stopped | sending
    · exact absurd stopped runs
    · simp [free] at sending
  | idle hello control answers data => exact fun _ _ => ⟨hello, control, answers, data⟩
  | drops _ head nothing =>
    obtain ⟨q, hq, -, something, -⟩ := laws.mem_control.1 (head ▸ List.mem_cons_self)
    simp [nothing q hq] at something
  | hello => exact .of_sending
  | control => exact .of_sending
  | answer => exact .of_sending
  | data => exact .of_sending

theorem Start.idleOn_other (start : Start l s t) (laws : ListLaws s) (other : m ≠ l) (h : s.IdleOn m) :
    t.IdleOn m :=
  h.of_same (start.otherLink other) fun d q hq on => start.recordsFrom laws d q hq (on ▸ other)

/-- After the boundaries of the links no link is left with work (R101). -/
theorem State.boundaries_idle (laws : ListLaws s) (m : LinkNo) : s.boundaries.IdleOn m := by
  have fold (ls : List LinkNo) : ∀ u : State, ListLaws u → (m ∉ ls → u.IdleOn m) →
      (ls.foldl (fun t l => t.boundary l) u).IdleOn m := by
    induction ls with
    | nil => exact fun u _ h => h List.not_mem_nil
    | cons l ls ih =>
      intro u hu h
      have start := Start.boundary l u
      refine ih _ (hu.start start) fun off => ?_
      by_cases own : m = l
      · exact own ▸ start.idleOn hu
      · exact start.idleOn_other hu own (h (by simp [own, off]))
  exact fold allLinks s laws fun off => absurd (List.mem_finRange m) off

/-! ### Every event -/

theorem State.IdleOn.of_stopped (stopped : (s.link m).state = .stopped) : s.IdleOn m :=
  fun runs => absurd stopped runs

theorem State.IdleOn.finishClaim (b : State) (laws : ListLaws s) (h : m ≠ l → s.IdleOn m) :
    (State.finishClaim b s l).IdleOn m := by
  have rooms := State.afterReturns_steps b s
  have reached := kept_listLaws.afterReturns b laws
  have start := Start.boundary l (State.afterReturns b s)
  by_cases own : m = l
  · exact own ▸ start.idleOn reached
  · exact start.idleOn_other reached own (State.IdleOn.row State.IdleOn.roomStep rooms (h own))

theorem Event.idleOn (event : Event i s t) (laws : ListLaws s) (h : s.IdleOn m) : t.IdleOn m := by
  cases event with
  | skip => exact h
  | window => exact h
  | quiet l w _ _ tweaks =>
    exact (State.IdleOn.row State.IdleOn.tweak tweaks h).window w
  | claim l b w _ _ claim tweaks =>
    have finished := State.IdleOn.finishClaim (l := l) b (kept_listLaws.claim claim laws)
      fun other => claim.idleOn other h
    exact (State.IdleOn.row State.IdleOn.tweak tweaks finished).window w
  | @release u c r w _ _ _ frees =>
    have less : u.IdleOn m := by
      have link := frees.link m
      refine h.of_less (by rw [link]) (by rw [link]) (by rw [link]) (fun empty => ?_) (by rw [link])
        fun d q hq sends => ?_
      · by_cases own : m = r.link
        · subst own
          rw [frees.control, empty]
          rfl
        · rw [frees.otherLink m own]
          exact empty
      · rw [frees.record] at hq
        split at hq
        · cases hq
        · exact ⟨q, hq, sends⟩
    exact less.window w
  | services => exact h
  | withdraws number b w _ _ moves =>
    have reached := kept_of_row (P := ListLaws) (fun step h => step.elim fun _ => ListLaws.move (h := h)) moves laws
    have removed := kept_listLaws.services (.removes number) reached
    exact (State.boundaries_idle (kept_listLaws.afterReturns b removed) m).window w
  | clears w => exact (State.boundaries_idle laws.cleared m).window w
  | resets lowNs rxd => exact .of_stopped (by rw [State.link_resetn]; rfl)
  | released => exact h
  | rises rxd =>
    refine .of_stopped ?_
    change ((s.resetn rxd).link m).state = _
    rw [State.link_resetn]
    rfl
  | powers low rxd => exact .of_stopped (by rw [State.link_endPowerHold]; rfl)

/-- Settles O53: every form of an event keeps the lists (`kept_listLaws`) and leaves each IDLE transmitter without
work (`Event.idleOn`). -/
theorem stepsKeepTheLinkListsAndLeaveNothingUnsent : Obligations.StepsKeepTheLinkListsAndLeaveNothingUnsent := by
  unfold Obligations.StepsKeepTheLinkListsAndLeaveNothingUnsent
  rintro s t ⟨control, owed, live, answers, idle⟩ next
  have laws : ListLaws s := ⟨control, owed, live, answers, fun l => (idle l).2⟩
  have after := kept_listLaws.step next laws
  refine ⟨after.control, after.owed, after.live, after.answers, fun l => ⟨?_, after.atRest l⟩⟩
  rcases event_of_step next with rfl | ⟨i, rest, event⟩
  · exact (idle l).1
  · have queue : ListLaws { s with pending := rest } := kept_listLaws.window { s.outside with pending := rest } laws
    exact event.idleOn (m := l) queue (idle l).1

end Sys2Proof.Machine
end

section
/-! PROOFS. The path of one circuit through an event: steady moves, at most one step that a frame or a command
serves it with, and at most one frame start on its link (R15, R17, R77 to R83, R107, R108). -/

namespace Sys2Proof.Machine

set_option Elab.async false

open Relation (ReflTransGen)

variable {s t u v : State} {l m : LinkNo} {c d : CircuitNo} {r r' q a b x y : Record} {i : Instr}

/-! ### Steady changes -/

/-- What every move keeps of a record: its identity, its peer once it has one, and its counters; of the credit
limit, where no call opens; and of an ended record everything but what it owes. -/
structure Record.Steady (r r' : Record) : Prop where
  identity : r'.identity = r.identity
  peer : r.peer ≠ none → r'.peer = r.peer
  sent : r'.sent = r.sent ∧ r'.nextSeq = r.nextSeq
  received : r'.received = r.received ∧ r'.expected = r.expected
  advertised : r'.advertised = r.advertised
  rxQueue : r'.rxQueue = r.rxQueue
  credit : r.phase ≠ .calling → r'.phase ≠ .calling ∧ r'.creditLimit = r.creditLimit
  live : r'.phase.live = true → r.phase.live = true
  formed : r.Formed → r'.Formed
  ended : r.Formed → r.phase.live = false → { r' with owed := r.owed } = r

theorem Record.Steady.refl (r : Record) : r.Steady r :=
  ⟨rfl, fun _ => rfl, ⟨rfl, rfl⟩, ⟨rfl, rfl⟩, rfl, rfl, fun h => ⟨h, rfl⟩, id, id, fun _ _ => rfl⟩

theorem Record.Steady.trans (h : r.Steady r') (g : r'.Steady q) : r.Steady q where
  identity := g.identity.trans h.identity
  peer some := (g.peer (by rw [h.peer some]; exact some)).trans (h.peer some)
  sent := ⟨g.sent.1.trans h.sent.1, g.sent.2.trans h.sent.2⟩
  received := ⟨g.received.1.trans h.received.1, g.received.2.trans h.received.2⟩
  advertised := g.advertised.trans h.advertised
  rxQueue := g.rxQueue.trans h.rxQueue
  credit other :=
    have first := h.credit other
    have second := g.credit first.1
    ⟨second.1, second.2.trans first.2⟩
  live alive := h.live (g.live alive)
  formed := g.formed ∘ h.formed
  ended formed dead := by
    have first := h.ended formed dead
    have still : r'.phase.live = false := Bool.eq_false_iff.2 fun alive => by simp [h.live alive] at dead
    have second := g.ended (h.formed formed) still
    rw [← first, ← second]

/-- A change of what is owed alone. -/
theorem Record.Steady.owes {o : Owed} (formed : r.Formed → Record.Formed { r with owed := o }) :
    r.Steady { r with owed := o } :=
  ⟨rfl, fun _ => rfl, ⟨rfl, rfl⟩, ⟨rfl, rfl⟩, rfl, rfl, fun h => ⟨h, rfl⟩, id, formed, fun _ _ => rfl⟩

/-- A change that only a live record makes, and that moves no counter. -/
theorem Record.Steady.of_live (live : r.phase.live = true) (formed : r.Formed → r'.Formed)
    (identity : r'.identity = r.identity := by rfl) (peer : r.peer ≠ none → r'.peer = r.peer := by exact fun _ => rfl)
    (sent : r'.sent = r.sent ∧ r'.nextSeq = r.nextSeq := by exact ⟨rfl, rfl⟩)
    (received : r'.received = r.received ∧ r'.expected = r.expected := by exact ⟨rfl, rfl⟩)
    (advertised : r'.advertised = r.advertised := by rfl) (rxQueue : r'.rxQueue = r.rxQueue := by rfl)
    (credit : r.phase ≠ .calling → r'.phase ≠ .calling ∧ r'.creditLimit = r.creditLimit) : r.Steady r' :=
  ⟨identity, peer, sent, received, advertised, rxQueue, credit, fun _ => live, formed, fun _ dead => by
    simp [live] at dead⟩

theorem Record.Change.steady (change : r.Change r') : r.Steady r' := by
  have formed : r.Formed → r'.Formed := change.formed
  cases change with
  | owes may => exact .owes formed
  | asks sends => exact .of_live (Phase.live_of_sendsData sends) formed (credit := fun h => ⟨h, rfl⟩)
  | repeats phase =>
    refine .of_live ?_ formed (credit := fun h => ⟨h, rfl⟩)
    rcases phase with ⟨phase, -⟩ | ⟨⟨_, phase⟩, -⟩
    · simp [phase, Phase.live]
    · simp [phase, Phase.live]
  | answers offered => exact .of_live (by simp [offered, Phase.live]) formed (credit := fun _ => ⟨nofun, rfl⟩)
  | closes phase => exact .of_live (by simp [phase, Phase.live]) formed (credit := fun _ => ⟨nofun, rfl⟩)
  | drains phase => exact .of_live (by simp [phase, Phase.live]) formed (credit := fun _ => ⟨nofun, rfl⟩)
  | amends _ _ live => exact .of_live live formed (credit := fun h => ⟨h, rfl⟩)
  | wantsRoom phase =>
    refine .of_live ?_ formed (credit := fun h => ⟨h, rfl⟩)
    rcases phase with phase | phase
    · simp [phase, Phase.live]
    · simp [phase, Phase.live]
  | hasRoom wanted =>
    refine ⟨rfl, fun _ => rfl, ⟨rfl, rfl⟩, ⟨rfl, rfl⟩, rfl, rfl, fun h => ⟨h, rfl⟩, id, formed, fun was dead => ?_⟩
    have presence := was.presence
    cases phase : r.phase <;> simp_all [Record.presence, Phase.live]
  | queues phase =>
    refine .of_live ?_ formed (credit := fun h => ⟨h, rfl⟩)
    rcases phase with phase | phase
    · simp [phase, Phase.live]
    · simp [phase, Phase.live]
  | breaks sends => exact .of_live (Phase.live_of_sendsData sends) formed (credit := fun _ => ⟨nofun, rfl⟩)
  | worsens phase => exact .of_live (by simp [phase, Phase.live]) formed (credit := fun _ => ⟨nofun, rfl⟩)
  | opens calling fits =>
    refine .of_live (by simp [calling, Phase.live]) formed (peer := fun some => ?_)
      (credit := fun other => absurd calling other)
    rcases fits with none | same
    · exact absurd none some
    · exact same.symm
  | ends live => exact .of_live live formed (credit := fun _ => ⟨nofun, rfl⟩)
  | forgets => exact .owes formed

/-! ### One circuit of a part -/

/-- What becomes of circuit `c` where it is neither allocated nor freed: its generation stays, and its record,
if it has one, changes by `R`. -/
inductive State.At (R : Record → Record → Prop) (c : CircuitNo) (s t : State) : Prop
  | free (generation : (t.circuit c).generation = (s.circuit c).generation) (before : s.record c = none)
    (after : t.record c = none) : State.At R c s t
  | holds {r r' : Record} (generation : (t.circuit c).generation = (s.circuit c).generation)
    (before : s.record c = some r) (after : t.record c = some r') (h : R r r') : State.At R c s t

theorem State.At.generation {R : Record → Record → Prop} (h : State.At R c s t) :
    (t.circuit c).generation = (s.circuit c).generation := by
  cases h with
  | free generation => exact generation
  | holds generation => exact generation

theorem State.At.mono {R Q : Record → Record → Prop} (h : State.At R c s t) (weaker : ∀ r r', R r r' → Q r r') :
    State.At Q c s t := by
  cases h with
  | free generation before after => exact .free generation before after
  | holds generation before after h => exact .holds generation before after (weaker _ _ h)

theorem State.At.comp {R Q P : Record → Record → Prop} (h : State.At R c s t) (g : State.At Q c t u)
    (both : ∀ r a r', R r a → Q a r' → P r r') : State.At P c s u := by
  cases h with
  | free generation before after =>
    cases g with
    | free generation' before' after' => exact .free (generation'.trans generation) before after'
    | holds _ before' => rw [after] at before'; cases before'
  | holds generation before after h =>
    cases g with
    | free _ before' => rw [after] at before'; cases before'
    | holds generation' before' after' g =>
      rw [after] at before'
      cases before'
      exact .holds (generation'.trans generation) before after' (both _ _ _ h g)

theorem State.At.of_circuit {R : Record → Record → Prop} (refl : ∀ r, R r r)
    (record : t.record c = s.record c) (generation : (t.circuit c).generation = (s.circuit c).generation) :
    State.At R c s t := by
  cases before : s.record c with
  | none => exact .free generation before (record.trans before)
  | some r => exact .holds generation before (record.trans before) (refl r)

theorem State.At.of_same {R : Record → Record → Prop} (refl : ∀ r, R r r) (same : t.circuit c = s.circuit c) :
    State.At R c s t :=
  .of_circuit refl (congrArg Circuit.record same) (congrArg Circuit.generation same)

theorem State.At.rewrites {R : Record → Record → Prop} {k : Option CircuitNotice} (refl : ∀ r, R r r)
    (h : s.Rewrites t d r r' k) (step : R r r') : State.At R c s t := by
  by_cases same : c = d
  · subst same
    exact .holds (h.generation c) h.before h.after step
  · exact .of_circuit refl (by rw [h.record, if_neg same]) (h.generation c)

theorem State.At.congr {R : Record → Record → Prop} (h : State.At R c s t) (same : u.circuit c = t.circuit c) :
    State.At R c s u :=
  h.comp (Q := Eq) (.of_same (fun _ => rfl) same) fun _ _ _ step same => same ▸ step

theorem State.At.window {R : Record → Record → Prop} (h : State.At R c s t) (w : Outside) :
    State.At R c s (t.withOutside w) := h.congr rfl

theorem State.At.of_free {R : Record → Record → Prop} (h : State.At R c s t) (free : s.record c = none) :
    t.record c = none ∧ (t.circuit c).generation = (s.circuit c).generation := by
  cases h with
  | free generation _ after => exact ⟨after, generation⟩
  | holds _ before => rw [free] at before; cases before

theorem generation_freeAll (h : s.circuits = freeAll u.circuits) (c : CircuitNo) :
    (s.circuit c).generation = (u.circuit c).generation := by
  simp [State.circuit, h, freeAll]

/-- A move keeps every circuit steady. -/
abbrev State.Steadily (c : CircuitNo) (s t : State) : Prop := State.At Record.Steady c s t

theorem State.Steadily.refl (c : CircuitNo) (s : State) : State.Steadily c s s := .of_same Record.Steady.refl rfl

theorem State.Steadily.trans (h : State.Steadily c s t) (g : State.Steadily c t u) : State.Steadily c s u :=
  h.comp g fun _ _ _ => Record.Steady.trans

theorem State.Steadily.of_row {R : State → State → Prop} (h : ∀ {s t}, R s t → State.Steadily c s t)
    (row : ReflTransGen R s t) : State.Steadily c s t := by
  induction row with
  | refl => exact .refl c s
  | tail _ last ih => exact ih.trans (h last)

theorem State.Steadily.change {k : Option CircuitNotice} (change : r.Change r') (h : s.Rewrites t d r r' k) :
    State.Steadily c s t :=
  .rewrites Record.Steady.refl h change.steady

theorem Tweak.steadily (h : Tweak l s t) : State.Steadily c s t := by
  cases h with
  | record _ change _ rewrites => exact .change change rewrites
  | _ => exact .of_same Record.Steady.refl rfl

theorem RecordStep.steadily (h : RecordStep l s t) : State.Steadily c s t := by
  obtain ⟨_, _, _, _, _, change, _, rewrites⟩ := h
  exact .change change rewrites

theorem RoomStep.steadily (h : RoomStep s t) : State.Steadily c s t := by
  obtain ⟨_, _, wanted, rewrites⟩ := h
  exact .change (.hasRoom wanted) rewrites

theorem Move.steadily (h : Move l s t) : State.Steadily c s t := by
  have same (circuit : t.circuit c = s.circuit c) : State.Steadily c s t := .of_same Record.Steady.refl circuit
  cases h with
  | tweak tweak => exact tweak.steadily
  | record _ change _ _ rewrites => exact .change change rewrites
  | opens _ _ _ steps =>
    have row := State.Steadily.of_row (c := c) RecordStep.steadily steps
    exact row.trans (.of_same Record.Steady.refl rfl)
  | stops => exact same (by simp [State.stopLink, State.linkDown])
  | halts => exact same (by simp [State.stopLink])
  | endsFrame => exact same (by simp)
  | _ => exact same rfl

theorem State.Steadily.afterReturns (b s : State) : State.Steadily c s (State.afterReturns b s) :=
  .of_row RoomStep.steadily (State.afterReturns_steps b s)

/-! ### Served once -/

/-- What a frame or RECEIVE does to a record at most once in an event. -/
inductive Record.Served (i : Instr) (r : Record) : Record → Prop
  | unserved : Record.Served i r r
  | accepts {payload : List Byte} (carries : r.phase.carriesData = true) (credit : r.received ≠ r.advertised) :
    Record.Served i r (r.acceptData r.expected payload)
  | offers {n : Nat} {limit : Word} (carries : r.phase.carriesData = true) :
    Record.Served i r (r.offerLimit n limit)
  | delivers {item : RxItem} {rest : List RxItem} (receive : i = .receive) (phase : r.phase ≠ .calling)
    (head : r.rxQueue = item :: rest) : Record.Served i r { r with rxQueue := rest }

/-- Whether an event may free an ended record (R20, R24). -/
def freesEnded (i : Instr) : Prop :=
  i = .circuitRelease ∨ i = .clear ∨ (∃ n rxd, i = .resetnPulse n rxd) ∨ ∃ moment rxd, i = .powerOn moment rxd

/-- What becomes of a circuit in an event: it goes on by `R`, it is allocated, or it is freed. -/
inductive State.Fate (R : Record → Record → Prop) (i : Instr) (c : CircuitNo) (s t : State) : Prop
  | goesOn (h : State.At R c s t)
  | allocated {r : Record} (free : s.record c = none) (after : t.record c = some r)
    (generation : (t.circuit c).generation = (s.circuit c).generation + 1)
    (line : ∀ m, lineOf i = some m → r.link = m ∧ r.direction = .incoming)
  | freed {r : Record} (before : s.record c = some r) (after : t.record c = none)
    (generation : (∀ moment rxd, i ≠ .powerOn moment rxd) →
      (t.circuit c).generation = (s.circuit c).generation)
    (cause : r.phase.live = true ∨ freesEnded i)
  | powered {moment : PowerMoment} {rxd : Vector LineLevel 4} (power : i = .powerOn moment rxd)
    (after : t.record c = none)

theorem State.Fate.then {R Q P : Record → Record → Prop} (h : State.Fate R i c s t) (g : State.At Q c t u)
    (both : ∀ r x r', R r x → Q x r' → P r r') (keeps : ∀ r r', Q r r' → r'.link = r.link ∧ r'.direction = r.direction) :
    State.Fate P i c s u := by
  cases h with
  | goesOn h => exact .goesOn (h.comp g both)
  | @allocated r free after generation line =>
    cases g with
    | free _ before => rw [after] at before; cases before
    | holds generation' before after' g =>
      rw [after] at before
      cases before
      obtain ⟨link, direction⟩ := keeps _ _ g
      refine .allocated free after' (generation'.trans generation) fun m hm => ?_
      rw [link, direction]
      exact line m hm
  | freed before after generation cause =>
    cases g with
    | free generation' _ after' =>
      exact .freed before after' (fun other => generation'.trans (generation other)) cause
    | holds _ before' => rw [after] at before'; cases before'
  | powered power after =>
    cases g with
    | free _ _ after' => exact .powered power after'
    | holds _ before' => rw [after] at before'; cases before'

theorem State.Fate.window {R : Record → Record → Prop} (h : State.Fate R i c s t) (w : Outside) :
    State.Fate R i c s (t.withOutside w) := by
  cases h with
  | goesOn h => exact .goesOn (h.window w)
  | allocated free after generation line => exact .allocated free after generation line
  | freed before after generation cause => exact .freed before after generation cause
  | powered power after => exact .powered power after

theorem Record.Steady.link_direction (h : r.Steady r') : r'.link = r.link ∧ r'.direction = r.direction := by
  have identity := h.identity
  simp only [Record.identity, Prod.mk.injEq] at identity
  exact ⟨identity.2.1, identity.1⟩

/-- A record that went steady and then was served. -/
def Record.SteadyServed (i : Instr) (r r' : Record) : Prop := ∃ x, r.Steady x ∧ x.Served i r'

theorem Record.SteadyServed.of_steady (h : r.Steady r') : r.SteadyServed i r' := ⟨r', h, .unserved⟩

theorem Once.fate (h : Once i l s t) (own : ∀ m, lineOf i = some m → m = l) (c : CircuitNo) :
    State.Fate (Record.SteadyServed i) i c s t := by
  have refl (r : Record) : r.SteadyServed i r := .of_steady (.refl r)
  have served {d : CircuitNo} {r r' : Record} {k : Option CircuitNotice} (rewrites : s.Rewrites t d r r' k)
      (served : r.Served i r') : State.Fate (Record.SteadyServed i) i c s t :=
    .goesOn (.rewrites refl rewrites ⟨r, .refl r, served⟩)
  cases h with
  | @allocates u t d alloc o k on line first _ allocates =>
    have steady := State.Steadily.of_row (c := c) Move.steadily first
    by_cases same : c = d
    · subst same
      have free : s.record c = none := by
        cases steady with
        | free _ before => exact before
        | holds _ _ after => rw [allocates.free] at after; cases after
      refine .allocated free allocates.after ?_ fun m hm => ⟨on.trans (own m hm).symm, line (by simp [hm])⟩
      rw [allocates.generation, if_pos rfl, steady.generation]
    · have unmoved : State.At Record.Steady c u t := .of_circuit Record.Steady.refl
        (by rw [allocates.record, if_neg same]) (by rw [allocates.generation, if_neg same])
      exact .goesOn (steady.comp unmoved fun _ _ _ first second => .of_steady (first.trans second))
  | @frees t d r _ offered frees =>
    by_cases same : c = d
    · subst same
      exact .freed frees.before ((frees.record c).trans (if_pos rfl)) (fun _ => frees.generation c)
        (.inl (by simp [offered, Phase.live]))
    · exact .goesOn (.of_circuit refl (by rw [frees.record, if_neg same]) (frees.generation c))
  | accepts _ carries credit rewrites => exact served rewrites (.accepts carries credit)
  | offers _ carries rewrites => exact served rewrites (.offers carries)
  | delivers _ receive phase head rewrites => exact served rewrites (.delivers receive phase.1 head)

/-- A record that went steady, then was served, and went steady again. -/
def Record.Claimed (i : Instr) (r r' : Record) : Prop := ∃ x y, r.Steady x ∧ x.Served i y ∧ y.Steady r'

theorem Record.Claimed.of_steady (h : r.Steady r') : r.Claimed i r' := ⟨r', r', h, .unserved, .refl r'⟩

theorem State.Fate.before {R Q : Record → Record → Prop} (first : State.Steadily c s t) (h : State.Fate R i c t u)
    (both : ∀ r x r', r.Steady x → R x r' → Q r r') : State.Fate Q i c s u := by
  cases h with
  | goesOn h => exact .goesOn (first.comp h both)
  | allocated free after generation line =>
    cases first with
    | free generation' before =>
      exact .allocated before after (generation.trans (by rw [generation'])) line
    | holds _ _ after' => rw [free] at after'; cases after'
  | freed before after generation cause =>
    cases first with
    | free _ _ after' => rw [before] at after'; cases after'
    | holds generation' before' after' steady =>
      rw [before] at after'
      cases after'
      refine .freed before' after (fun other => (generation other).trans generation') ?_
      rcases cause with live | frees
      · exact .inl (steady.live live)
      · exact .inr frees
  | powered power after => exact .powered power after

theorem Claim.fate (h : Claim i l s t) (own : ∀ m, lineOf i = some m → m = l) (c : CircuitNo) :
    State.Fate (Record.Claimed i) i c s t := by
  cases h with
  | moves moves => exact .goesOn ((State.Steadily.of_row Move.steadily moves).mono fun _ _ => .of_steady)
  | once before once after =>
    have served := State.Fate.before (Q := Record.SteadyServed i) (State.Steadily.of_row (c := c) Move.steadily before)
      (once.fate own c) fun r x r' first ⟨y, second, served⟩ => ⟨y, first.trans second, served⟩
    exact served.then (State.Steadily.of_row Move.steadily after)
      (fun r x r' ⟨y, first, served⟩ last => ⟨y, x, first, served, last⟩) fun _ _ => Record.Steady.link_direction

/-! ### Frame starts -/

/-- What the start of one frame on link `l` makes of a record. -/
inductive Record.Sent (l : LinkNo) (r : Record) : Record → Prop
  | unsent : Record.Sent l r r
  | control {n : Nat} {k : ControlKind} (owed : r.owed.has k = true) : Record.Sent l r (r.afterFrame n k)
  | data {n : Nat} {payload : List Byte} {rest : List (List Byte)} (eligible : r.eligible l = true)
    (queue : r.txQueue = payload :: rest) : Record.Sent l r (r.afterData n rest)

theorem Start.sent (h : Start l s t) (c : CircuitNo) : State.At (Record.Sent l) c s t := by
  have refl (r : Record) : r.Sent l r := .unsent
  cases h with
  | @control d r k rest _ _ _ before first =>
    by_cases same : c = d
    · subst same
      exact .holds (s.generation_setRecord c c _) before (s.record_setRecord_self c _)
        (.control (Owed.has_first first))
    · exact .of_circuit refl (s.record_setRecord_ne _ same) (s.generation_setRecord d c _)
  | data _ _ _ eligible queue rewrites =>
    have sent : State.At (Record.Sent l) c s _ := .rewrites refl rewrites (.data eligible queue)
    exact sent.congr rfl
  | _ => exact .of_same refl rfl

/-- The frame starts of one event, a link after another, with steady changes between. -/
inductive Record.Sends : List LinkNo → Record → Record → Prop
  | done {r r' : Record} (h : r.Steady r') : Record.Sends [] r r'
  | start {l : LinkNo} {ls : List LinkNo} {r x y r' : Record} (steady : r.Steady x) (sent : x.Sent l y)
    (rest : Record.Sends ls y r') : Record.Sends (l :: ls) r r'

/-- The path of a record that stays allocated through an event. -/
def Record.Path (i : Instr) (r r' : Record) : Prop :=
  ∃ ls x, ls.Nodup ∧ r.Claimed i x ∧ Record.Sends ls x r'

theorem Record.Claimed.path (h : r.Claimed i r') : r.Path i r' := ⟨[], r', List.nodup_nil, h, .done (.refl r')⟩

theorem Record.Path.of_steady (h : r.Steady r') : r.Path i r' := (Record.Claimed.of_steady h).path

theorem Record.Sent.link_direction (h : r.Sent l r') : r'.link = r.link ∧ r'.direction = r.direction := by
  have of_identity (identity : r'.identity = r.identity) : r'.link = r.link ∧ r'.direction = r.direction := by
    simp only [Record.identity, Prod.mk.injEq] at identity
    exact ⟨identity.2.1, identity.1⟩
  cases h with
  | unsent => exact ⟨rfl, rfl⟩
  | @control n k => exact of_identity (r.afterFrame_frame n k).1
  | @data n _ rest => exact of_identity (r.afterData_frame n rest).1

theorem Record.Sends.link_direction {ls : List LinkNo} (h : Record.Sends ls r r') :
    r'.link = r.link ∧ r'.direction = r.direction := by
  induction h with
  | done h => exact h.link_direction
  | start steady sent _ ih =>
    obtain ⟨link, direction⟩ := steady.link_direction
    obtain ⟨link', direction'⟩ := sent.link_direction
    exact ⟨ih.1.trans (link'.trans link), ih.2.trans (direction'.trans direction)⟩

/-- The boundaries of a row of links. -/
theorem State.At.boundaries (ls : List LinkNo) (s : State) (c : CircuitNo) :
    State.At (Record.Sends ls) c s (ls.foldl (fun t l => t.boundary l) s) := by
  induction ls generalizing s with
  | nil => exact (State.Steadily.refl c s).mono fun _ _ => .done
  | cons l ls ih =>
    exact ((Start.boundary l s).sent c).comp (ih (s.boundary l)) fun r x r' sent rest => .start (.refl r) sent rest

theorem State.At.allBoundaries (s : State) (c : CircuitNo) : State.At (Record.Sends allLinks) c s s.boundaries :=
  State.At.boundaries allLinks s c

theorem State.At.finishClaim (b s : State) (l : LinkNo) (c : CircuitNo) :
    State.At (Record.Sends [l]) c s (State.finishClaim b s l) :=
  (State.Steadily.afterReturns b s).comp ((Start.boundary l _).sent c) fun _ _ r' steady sent =>
    .start steady sent (.done (.refl r'))

theorem Record.Sends.steady {ls : List LinkNo} (h : Record.Sends ls r x) (last : x.Steady r') :
    Record.Sends ls r r' := by
  induction h with
  | done h => exact .done (h.trans last)
  | start steady sent _ ih => exact .start steady sent (ih last)

theorem Record.Sends.of_steady {ls : List LinkNo} (first : r.Steady x) (h : Record.Sends ls x r') :
    Record.Sends ls r r' := by
  cases h with
  | done h => exact .done (first.trans h)
  | start steady sent rest => exact .start (first.trans steady) sent rest

/-! ### Every event -/

/-- What becomes of a circuit in any event. -/
theorem Event.fate (h : Event i s t) (c : CircuitNo) : State.Fate (Record.Path i) i c s t := by
  have steady {u : State} (h : State.Steadily c s u) : State.Fate (Record.Path i) i c s u :=
    .goesOn (h.mono fun _ _ => .of_steady)
  have emptied {u : State} (free : u.record c = none)
      (generation : (u.circuit c).generation = (s.circuit c).generation) (cause : freesEnded i) :
      State.Fate (Record.Path i) i c s u := by
    cases before : s.record c with
    | none => exact .goesOn (.free generation before free)
    | some r => exact .freed before free (fun _ => generation) (.inr cause)
  cases h with
  | skip => exact steady (.refl c s)
  | window w => exact steady (.of_same Record.Steady.refl rfl)
  | quiet l w _ _ tweaks => exact steady ((State.Steadily.of_row Tweak.steadily tweaks).window w)
  | @claim u v l b w _ line claim tweaks =>
    have sends : State.At (Record.Sends [l]) c u (v.withOutside w) :=
      ((State.At.finishClaim b u l c).comp (State.Steadily.of_row Tweak.steadily tweaks)
        fun _ _ _ sends last => sends.steady last).window w
    exact (claim.fate (fun m hm => (line m hm).1) c).then sends
      (fun r x r' claimed sends => ⟨[l], x, List.nodup_singleton l, claimed, sends⟩)
      fun _ _ => Record.Sends.link_direction
  | @release u d r w _ command ended frees =>
    by_cases same : c = d
    · subst same
      exact .freed frees.before ((frees.record c).trans (if_pos rfl)) (fun _ => frees.generation c)
        (.inr (.inl command))
    · have unmoved : State.Steadily c s u := .of_circuit Record.Steady.refl
        (by rw [frees.record, if_neg same]) (frees.generation c)
      exact steady (unmoved.window w)
  | services w => exact steady (.of_same Record.Steady.refl rfl)
  | @withdraws u number b w _ _ moves =>
    have first := State.Steadily.of_row (c := c) (fun step => step.elim fun _ => Move.steadily) moves
    have removed : State.Steadily c u (u.removeService number) := .of_same Record.Steady.refl rfl
    have returned := State.Steadily.afterReturns (c := c) b (u.removeService number)
    have sends := (((first.trans removed).trans returned).comp (State.At.allBoundaries _ c)
      fun _ _ _ steady sends => Record.Sends.of_steady steady sends).window w
    exact .goesOn (sends.mono fun r r' sends =>
      ⟨allLinks, r, List.nodup_finRange 4, .of_steady (.refl r), sends⟩)
  | clears w _ command =>
    obtain ⟨free, generation⟩ := (State.At.allBoundaries s.cleared c).of_free (record_freeAll rfl c)
    exact (emptied free (generation.trans (generation_freeAll rfl c)) (.inr (.inl command))).window w
  | resets lowNs rxd pin => exact emptied (record_freeAll rfl c) (generation_freeAll rfl c) (.inr (.inr (.inl ⟨_, _, pin⟩)))
  | released => exact steady (.of_same Record.Steady.refl rfl)
  | rises rxd power => exact .powered power (record_freeAll rfl c)
  | powers low rxd power => exact .powered power (record_reset rfl c)

end Sys2Proof.Machine
end

section
/-! PROOFS. What no event does: records keep their identity (R3, R4, R6, R15, R17), counters move as their rules give
(R77 to R83, R107, R108), and one line reaches its own link alone (R52, R99, R127, R133). -/

namespace Sys2Proof.Machine

set_option Elab.async false

open Relation (ReflTransGen)

variable {s t u v : State} {l m : LinkNo} {c d : CircuitNo} {r r' q a b x y : Record} {i : Instr}

/-! ### Identity and peer -/

/-- A record that keeps its identity, and its peer once it has one. -/
structure Record.Keeps (r r' : Record) : Prop where
  identity : r'.identity = r.identity
  peer : r.peer ≠ none → r'.peer = r.peer

theorem Record.Keeps.trans (h : r.Keeps x) (g : x.Keeps r') : r.Keeps r' :=
  ⟨g.identity.trans h.identity, fun some => (g.peer (by rw [h.peer some]; exact some)).trans (h.peer some)⟩

theorem Record.Steady.keeps (h : r.Steady r') : r.Keeps r' := ⟨h.identity, h.peer⟩

theorem Record.Served.keeps (h : r.Served i r') : r.Keeps r' := by
  cases h with
  | offers =>
    unfold Record.offerLimit
    split
    · exact ⟨rfl, fun _ => rfl⟩
    · exact ⟨rfl, fun _ => rfl⟩
  | _ => exact ⟨rfl, fun _ => rfl⟩

theorem Record.Sent.keeps (h : r.Sent l r') : r.Keeps r' := by
  cases h with
  | unsent => exact ⟨rfl, fun _ => rfl⟩
  | @control n k =>
    obtain ⟨identity, -, -, -, -, peer, -⟩ := r.afterFrame_frame n k
    exact ⟨identity, fun _ => peer⟩
  | @data n _ rest =>
    obtain ⟨identity, peer, -⟩ := r.afterData_frame n rest
    exact ⟨identity, fun _ => peer⟩

theorem Record.Sends.keeps {ls : List LinkNo} (h : Record.Sends ls r r') : r.Keeps r' := by
  induction h with
  | done h => exact h.keeps
  | start steady sent _ ih => exact steady.keeps.trans (sent.keeps.trans ih)

theorem Record.Path.keeps (h : r.Path i r') : r.Keeps r' := by
  obtain ⟨ls, x, -, ⟨y, z, first, served, second⟩, sends⟩ := h
  exact first.keeps.trans (served.keeps.trans (second.keeps.trans sends.keeps))

/-! ### Ended records -/

/-- An ended record as it ended, but for its receive queue and what it owes. -/
structure Record.EndedAs (r x : Record) : Prop where
  formed : x.Formed
  ended : x.phase.live = false
  same : { x with rxQueue := r.rxQueue, owed := r.owed } = r

theorem Record.EndedAs.owing {o : Owed} (h : r.EndedAs x) (same : y = { x with owed := o }) (formed : y.Formed) :
    r.EndedAs y := by
  subst same
  exact ⟨formed, h.ended, h.same⟩

theorem Record.EndedAs.steady (h : r.EndedAs x) (steady : x.Steady y) : r.EndedAs y := by
  have same := steady.ended h.formed h.ended
  refine h.owing (o := y.owed) ?_ (steady.formed h.formed)
  rw [← same]

/-- The frames of an ended circuit are its CLOSE and CLOSED, and change what it owes alone (R61, R105). -/
theorem Record.afterFrame_of_ended {n : Nat} {k : ControlKind} (formed : r.Formed) (ended : r.phase.live = false)
    (owed : r.owed.has k = true) : r.afterFrame n k = { r with owed := r.owed.put k false } := by
  have kinds := formed.kinds
  unfold Record.afterFrame Record.afterControl
  cases phase : r.phase with
  | ended cause detail discarded =>
    simp only [Record.owedKinds, phase, Bool.and_eq_true, Bool.not_eq_true', Bool.or_eq_false_iff] at kinds
    cases k with
    | grant => simp [Owed.has, kinds] at owed
    | openRequest => simp [Owed.has, kinds] at owed
    | close => simp
    | accept => simp
    | ask => simp
    | closed => simp
  | _ => simp [phase, Phase.live] at ended

theorem Record.EndedAs.sent (h : r.EndedAs x) (sent : x.Sent l y) : r.EndedAs y ∧ y.rxQueue = x.rxQueue := by
  cases sent with
  | unsent => exact ⟨h, rfl⟩
  | @control n k owed =>
    have same := Record.afterFrame_of_ended (n := n) h.formed h.ended owed
    exact ⟨h.owing same (h.formed.afterFrame owed), by rw [same]⟩
  | data eligible =>
    have live := Phase.live_of_sendsData (Record.sends_of_eligible eligible).2
    simp [h.ended] at live

theorem Record.EndedAs.sends {ls : List LinkNo} (sends : Record.Sends ls x y) (h : r.EndedAs x) :
    r.EndedAs y ∧ y.rxQueue = x.rxQueue := by
  induction sends with
  | done steady => exact ⟨h.steady steady, steady.rxQueue⟩
  | start steady sent _ ih =>
    obtain ⟨after, queue⟩ := (h.steady steady).sent sent
    obtain ⟨last, queue'⟩ := ih after
    exact ⟨last, queue'.trans (queue.trans steady.rxQueue)⟩

theorem Record.EndedAs.served (h : r.EndedAs x) (served : x.Served i y) :
    r.EndedAs y ∧ (y.rxQueue = x.rxQueue ∨ (i = .receive ∧ y.rxQueue = x.rxQueue.tail)) := by
  cases served with
  | unserved => exact ⟨h, .inl rfl⟩
  | accepts carries =>
    have live := Phase.live_of_carriesData carries
    simp [h.ended] at live
  | offers carries =>
    have live := Phase.live_of_carriesData carries
    simp [h.ended] at live
  | delivers receive phase head =>
    refine ⟨⟨h.formed.delivers ⟨phase, fun offered => ?_⟩, h.ended, h.same⟩, .inr ⟨receive, by rw [head]; rfl⟩⟩
    have ended := h.ended
    simp [offered, Phase.live] at ended

theorem Record.Path.ended (h : r.Path i r') (formed : r.Formed) (ended : r.phase.live = false) :
    { r' with rxQueue := r.rxQueue, owed := r.owed } = r
      ∧ (r'.rxQueue = r.rxQueue ∨ (i = .receive ∧ r'.rxQueue = r.rxQueue.tail)) := by
  obtain ⟨ls, x, -, ⟨y, z, first, served, second⟩, sends⟩ := h
  have start : r.EndedAs r := ⟨formed, ended, rfl⟩
  obtain ⟨atServed, queue⟩ := (start.steady first).served served
  obtain ⟨last, sentQueue⟩ := Record.EndedAs.sends sends (atServed.steady second)
  refine ⟨last.same, ?_⟩
  rw [sentQueue, second.rxQueue, ← first.rxQueue]
  exact queue

/-- Settles O58, by the fate of each circuit in an event (`Event.fate`). -/
theorem recordsKeepTheirIdentity : Obligations.RecordsKeepTheirIdentity := by
  unfold Obligations.RecordsKeepTheirIdentity
  intro i s t next
  have fate (c : CircuitNo) := (event_of_exec next).fate c
  refine ⟨fun c other => ?_, fun c free holds => ?_, fun c r r' before after => ?_, fun c r law before dead => ?_⟩
  · cases fate c with
    | goesOn h => exact .inl h.generation
    | allocated free after generation => exact .inr ⟨free, by simp [after], generation⟩
    | freed _ _ generation => exact .inl (generation other)
    | powered power => exact absurd power (other _ _)
  · cases fate c with
    | goesOn h =>
      cases h with
      | free _ _ after => exact absurd after holds
      | holds _ before => rw [free] at before; cases before
    | allocated _ _ generation => exact generation
    | freed _ after => exact absurd after holds
    | powered _ after => exact absurd after holds
  · cases fate c with
    | goesOn h =>
      cases h with
      | free _ before' => rw [before] at before'; cases before'
      | holds _ before' after' path =>
        rw [before] at before'
        rw [after] at after'
        cases before'
        cases after'
        obtain ⟨identity, peer⟩ := path.keeps
        simp only [Record.identity, Prod.mk.injEq] at identity
        exact ⟨identity.1, identity.2.1, identity.2.2.1, identity.2.2.2, peer⟩
    | allocated free => rw [before] at free; cases free
    | freed _ after' => rw [after] at after'; cases after'
    | powered _ after' => rw [after] at after'; cases after'
  · cases fate c with
    | goesOn h =>
      cases h with
      | free _ before' => rw [before] at before'; cases before'
      | holds _ before' after path =>
        rw [before] at before'
        cases before'
        exact .inr ⟨_, after, path.ended (RecordLaw.formed law before) dead⟩
    | allocated free => rw [before] at free; cases free
    | freed before' after _ cause =>
      rw [before] at before'
      cases before'
      rcases cause with live | frees
      · simp [dead] at live
      · exact .inl ⟨after, frees⟩
    | powered power after => exact .inl ⟨after, .inr (.inr (.inr ⟨_, _, power⟩))⟩

/-! ### The four counters -/

/-- Whether a limit lies 1..32767 ahead of another, as the statements spell it (R78, R79). -/
theorem forward_iff (w : Word) : forward w = true ↔ 1 ≤ w.toNat ∧ w.toNat ≤ 32767 := inRange_iff _ _ _

/-- What the counters of a record have done on the way from `r`. -/
structure Record.Progress (r x : Record) : Prop where
  credit : r.phase ≠ .calling →
    x.phase ≠ .calling ∧ (x.creditLimit = r.creditLimit ∨ forward (x.creditLimit - r.creditLimit) = true)
  sent : (x.sent = r.sent ∧ x.nextSeq = r.nextSeq) ∨
    (x.phase ≠ .calling ∧ x.sent = r.sent + 1 ∧ x.nextSeq = r.nextSeq + 1
      ∧ forward (x.creditLimit - r.sent) = true)
  received : (x.received = r.received ∧ x.expected = r.expected) ∨
    (x.received = r.received + 1 ∧ x.expected = r.expected + 1 ∧ r.received ≠ r.advertised
      ∧ ∃ payload, x.rxQueue = r.rxQueue ++ [{ sequence := r.expected, payload := payload }])
  advertised : x.advertised = r.advertised ∨ x.advertised = x.candidate

/-- Nothing has been sent on the way from `r`. -/
def Record.Unsent (r x : Record) : Prop := x.sent = r.sent ∧ x.nextSeq = r.nextSeq

theorem Record.candidate_congr (received : y.received = x.received) (quota : y.quota = x.quota)
    (rxQueue : y.rxQueue = x.rxQueue) : y.candidate = x.candidate := by
  simp only [Record.candidate, received, quota, rxQueue]

theorem Record.Progress.steady (h : r.Progress x) (steady : x.Steady y) : r.Progress y where
  credit other := by
    obtain ⟨state, limit⟩ := h.credit other
    obtain ⟨state', same⟩ := steady.credit state
    exact ⟨state', same ▸ limit⟩
  sent := by
    rw [steady.sent.1, steady.sent.2]
    rcases h.sent with unsent | ⟨state, sent, nextSeq, within⟩
    · exact .inl unsent
    · obtain ⟨state', same⟩ := steady.credit state
      exact .inr ⟨state', sent, nextSeq, same ▸ within⟩
  received := by
    rw [steady.received.1, steady.received.2, steady.rxQueue]
    exact h.received
  advertised := by
    have identity := steady.identity
    simp only [Record.identity, Prod.mk.injEq] at identity
    rw [steady.advertised, Record.candidate_congr steady.received.1 identity.2.2.2 steady.rxQueue]
    exact h.advertised

/-- The counters of a record that went steady, was served once, and went steady again. -/
theorem Record.Claimed.progress (h : r.Claimed i r') : r.Progress r' ∧ r.Unsent r' := by
  obtain ⟨x, y, first, served, second⟩ := h
  suffices r.Progress y ∧ r.Unsent y from
    ⟨this.1.steady second, second.sent.1.trans this.2.1, second.sent.2.trans this.2.2⟩
  obtain ⟨-, -, sent, received, advertised, rxQueue, credit, -⟩ := first
  cases served with
  | unserved =>
    exact ⟨⟨fun other => ⟨(credit other).1, .inl (credit other).2⟩, .inl sent, .inl received, .inl advertised⟩, sent⟩
  | @accepts payload carries room =>
    refine ⟨⟨fun other => ⟨(credit other).1, .inl (credit other).2⟩, .inl sent, .inr ⟨?_, ?_, ?_, payload, ?_⟩,
      .inl advertised⟩, sent⟩
    · rw [← received.1]; rfl
    · rw [← received.2]; rfl
    · rw [← received.1, ← advertised]; exact room
    · rw [← received.2, ← rxQueue]; rfl
  | offers carries =>
    unfold Record.offerLimit
    split
    · rename_i ahead
      exact ⟨⟨fun other => ⟨(credit other).1, .inr ((credit other).2 ▸ ahead)⟩, .inl sent, .inl received,
        .inl advertised⟩, sent⟩
    · exact ⟨⟨fun other => ⟨(credit other).1, .inl (credit other).2⟩, .inl sent, .inl received, .inl advertised⟩, sent⟩
  | delivers =>
    exact ⟨⟨fun other => ⟨(credit other).1, .inl (credit other).2⟩, .inl sent, .inl received, .inl advertised⟩, sent⟩

/-- A control frame's start moves the advertised limit to the candidate limit or not at all (R105). -/
theorem Record.afterFrame_counters (r : Record) (n : Nat) (k : ControlKind) :
    (r.afterFrame n k).creditLimit = r.creditLimit ∧ (r.afterFrame n k).sent = r.sent
      ∧ (r.afterFrame n k).nextSeq = r.nextSeq ∧ (r.afterFrame n k).received = r.received
      ∧ (r.afterFrame n k).expected = r.expected ∧ (r.afterFrame n k).rxQueue = r.rxQueue
      ∧ ((r.afterFrame n k).advertised = r.advertised ∨ (r.afterFrame n k).advertised = r.candidate) := by
  unfold Record.afterFrame Record.afterControl
  cases k with
  | grant => exact ⟨rfl, rfl, rfl, rfl, rfl, rfl, .inr rfl⟩
  | close => dsimp only; split <;> exact ⟨rfl, rfl, rfl, rfl, rfl, rfl, .inl rfl⟩
  | _ => exact ⟨rfl, rfl, rfl, rfl, rfl, rfl, .inl rfl⟩

theorem Record.afterData_counters (r : Record) (n : Nat) (rest : List (List Byte)) :
    (r.afterData n rest).creditLimit = r.creditLimit ∧ (r.afterData n rest).sent = r.sent + 1
      ∧ (r.afterData n rest).nextSeq = r.nextSeq + 1 ∧ (r.afterData n rest).received = r.received
      ∧ (r.afterData n rest).expected = r.expected ∧ (r.afterData n rest).rxQueue = r.rxQueue
      ∧ (r.afterData n rest).advertised = r.advertised := by
  unfold Record.afterData
  split <;> exact ⟨rfl, rfl, rfl, rfl, rfl, rfl, rfl⟩

theorem Record.Progress.sent_on (h : r.Progress x) (sent : x.Sent l y) (on : x.link = l → r.Unsent x) :
    r.Progress y ∧ (x.link ≠ l → r.Unsent x → r.Unsent y) := by
  cases sent with
  | unsent => exact ⟨h, fun _ => id⟩
  | @control n k =>
    obtain ⟨limit, sent, nextSeq, received, expected, rxQueue, advertised⟩ := x.afterFrame_counters n k
    obtain ⟨identity, phase, -⟩ := x.afterFrame_frame n k
    simp only [Record.identity, Prod.mk.injEq] at identity
    refine ⟨⟨?_, ?_, ?_, ?_⟩, fun _ unsent => ⟨sent.trans unsent.1, nextSeq.trans unsent.2⟩⟩
    · rw [limit, phase]
      exact h.credit
    · rw [limit, phase, sent, nextSeq]
      exact h.sent
    · rw [received, expected, rxQueue]
      exact h.received
    · have candidate : (x.afterFrame n k).candidate = x.candidate :=
        Record.candidate_congr received identity.2.2.2 rxQueue
      rw [candidate]
      rcases advertised with same | granted
      · rw [same]; exact h.advertised
      · exact .inr granted
  | @data n _ rest eligible =>
    obtain ⟨limit, sent, nextSeq, received, expected, rxQueue, advertised⟩ := x.afterData_counters n rest
    obtain ⟨identity, -, phase⟩ := x.afterData_frame n rest
    simp only [Record.identity, Prod.mk.injEq] at identity
    obtain ⟨linked, sends⟩ := Record.sends_of_eligible eligible
    have state : (x.afterData n rest).phase ≠ .calling := by
      rcases phase with same | ⟨-, closed⟩
      · intro calling
        rw [← same, calling] at sends
        simp [Phase.sendsData] at sends
      · simp [closed]
    have within : forward x.credit = true := by
      rw [Record.eligible, Bool.and_eq_true] at eligible
      exact eligible.2
    have unsent := on linked
    refine ⟨⟨fun other => ⟨state, ?_⟩, .inr ⟨state, ?_, ?_, ?_⟩, ?_, ?_⟩, fun other => absurd linked other⟩
    · rw [limit]; exact (h.credit other).2
    · rw [sent, unsent.1]
    · rw [nextSeq, unsent.2]
    · rw [limit, ← unsent.1]; exact within
    · rw [received, expected, rxQueue]; exact h.received
    · rw [advertised, Record.candidate_congr received identity.2.2.2 rxQueue]; exact h.advertised

theorem Record.Progress.sends {ls : List LinkNo} (sends : Record.Sends ls x y) (once : ls.Nodup)
    (h : r.Progress x) (unsent : x.link ∈ ls → r.Unsent x) : r.Progress y := by
  induction sends with
  | done steady => exact h.steady steady
  | @start l ls x x' y r' steady sent _ ih =>
    obtain ⟨off, rest⟩ := List.nodup_cons.1 once
    have linked := steady.link_direction.1
    have still (own : x'.link ∈ l :: ls) : r.Unsent x' := by
      obtain ⟨was, next⟩ := unsent (linked ▸ own)
      exact ⟨steady.sent.1.trans was, steady.sent.2.trans next⟩
    obtain ⟨progress, kept⟩ := (h.steady steady).sent_on sent fun own => still (own ▸ List.mem_cons_self)
    refine ih rest progress fun later => ?_
    rw [sent.link_direction.1] at later
    have other : x'.link ≠ l := fun same => off (same ▸ later)
    exact kept other (still (List.mem_cons_of_mem l later))

theorem Record.Path.progress (h : r.Path i r') : r.Progress r' := by
  obtain ⟨ls, x, once, claimed, sends⟩ := h
  exact claimed.progress.1.sends sends once fun _ => claimed.progress.2

/-- Settles O59, by the path of a record that stays allocated (`Record.Path.progress`). -/
theorem countersMoveOnlyAsTheirRulesGive : Obligations.CountersMoveOnlyAsTheirRulesGive := by
  unfold Obligations.CountersMoveOnlyAsTheirRulesGive
  intro i s t c r r' next before after
  have progress : r.Progress r' := by
    cases (event_of_exec next).fate c with
    | goesOn h =>
      cases h with
      | free _ before' => rw [before] at before'; cases before'
      | holds _ before' after' path =>
        rw [before] at before'
        rw [after] at after'
        cases before'
        cases after'
        exact path.progress
    | allocated free => rw [before] at free; cases free
    | freed _ after' => rw [after] at after'; cases after'
    | powered _ after' => rw [after] at after'; cases after'
  refine ⟨fun other moved => ?_, ?_, progress.received, progress.advertised⟩
  · exact (forward_iff _).1 ((progress.credit other).2.resolve_left moved)
  · rcases progress.sent with unsent | ⟨-, sent, nextSeq, within⟩
    · exact .inl unsent
    · exact .inr ⟨sent, nextSeq, (forward_iff _).1 within⟩

/-! ### The other links -/

/-- The records of the other links stay, and the control list of link `l` names no circuit of another link. -/
structure OnlyOn (l : LinkNo) (s t : State) : Prop where
  records : ∀ c r, s.record c = some r → r.link ≠ l → t.record c = some r
  control : (∀ c ∈ (s.link l).controlList, ∀ r, s.record c = some r → r.link = l) →
    ∀ c ∈ (t.link l).controlList, ∀ r, t.record c = some r → r.link = l

theorem OnlyOn.refl (l : LinkNo) (s : State) : OnlyOn l s s := ⟨fun _ _ h _ => h, id⟩

theorem OnlyOn.trans (h : OnlyOn l s t) (g : OnlyOn l t u) : OnlyOn l s u :=
  ⟨fun c r hr other => g.records c r (h.records c r hr other) other, g.control ∘ h.control⟩

theorem OnlyOn.of_row {R : State → State → Prop} (h : ∀ {s t}, R s t → OnlyOn l s t) (row : ReflTransGen R s t) :
    OnlyOn l s t := by
  induction row with
  | refl => exact .refl l _
  | tail _ last ih => exact ih.trans (h last)

/-- The records stay, and the control list gains nothing. -/
theorem OnlyOn.of_records (record : ∀ c, t.record c = s.record c)
    (control : ∀ c ∈ (t.link l).controlList, c ∈ (s.link l).controlList) : OnlyOn l s t :=
  ⟨fun c _ hr _ => (record c).trans hr, fun own c hc r hr => own c (control c hc) r ((record c) ▸ hr)⟩

theorem ControlMove.subset {up : Bool} {before after : Owed} {xs ys : List CircuitNo}
    (h : ControlMove c up before after xs ys) : ∀ d ∈ ys, d ∈ xs ∨ d = c := by
  cases h with
  | stays => exact fun d hd => .inl hd
  | joins => exact fun d hd => by simpa using hd
  | leaves => exact fun d hd => .inl (List.mem_of_mem_filter hd)

/-- One circuit of the link is written, and may come to the list. -/
theorem OnlyOn.written (record : ∀ d, d ≠ c → t.record d = s.record d)
    (before : ∀ r, s.record c = some r → r.link = l) (after : ∀ r, t.record c = some r → r.link = l)
    (control : ∀ d ∈ (t.link l).controlList, d ∈ (s.link l).controlList ∨ d = c) : OnlyOn l s t := by
  refine ⟨fun d r hr other => ?_, fun own d hd r hr => ?_⟩
  · by_cases same : d = c
    · subst same
      exact absurd (before r hr) other
    · rw [record d same]
      exact hr
  · by_cases same : d = c
    · subst same
      exact after r hr
    · rw [record d same] at hr
      exact own d ((control d hd).resolve_right same) r hr

theorem OnlyOn.rewrites {k : Option CircuitNotice} (h : s.Rewrites t c r r' k) (on : r.link = l) :
    OnlyOn l s t := by
  subst on
  refine .written (c := c) (fun d other => by rw [h.record, if_neg other]) (fun q hq => ?_) (fun q hq => ?_)
    h.control.subset
  · rw [h.before] at hq
    cases hq
    rfl
  · rw [h.after] at hq
    cases hq
    exact h.linkNo

theorem OnlyOn.allocates {a : Allocation} {o : Owed} {k : Option CircuitNotice} (h : s.Allocates t c a o k)
    (on : a.link = l) : OnlyOn l s t := by
  subst on
  refine .written (c := c) (fun d other => by rw [h.record, if_neg other]) (fun q hq => ?_) (fun q hq => ?_)
    h.control.subset
  · rw [h.free] at hq
    cases hq
  · rw [h.after] at hq
    cases hq
    rfl

theorem OnlyOn.frees (h : s.Frees t c r) (on : r.link = l) : OnlyOn l s t := by
  subst on
  refine .written (c := c) (fun d other => by rw [h.record, if_neg other]) (fun q hq => ?_) (fun q hq => ?_)
    fun d hd => ?_
  · rw [h.before] at hq
    cases hq
    rfl
  · rw [h.record, if_pos rfl] at hq
    cases hq
  · rw [h.control] at hd
    exact .inl (List.mem_of_mem_filter hd)

theorem RecordStep.onlyOn (h : RecordStep l s t) : OnlyOn l s t := by
  obtain ⟨_, _, _, _, on, _, _, rewrites⟩ := h
  exact .rewrites rewrites on

theorem Tweak.onlyOn (h : Tweak l s t) : OnlyOn l s t := by
  cases h with
  | link tweak =>
    refine .of_records (fun _ => rfl) fun c hc => ?_
    rw [State.link_setLink_self, tweak.lists.2.1] at hc
    exact hc
  | record on _ _ rewrites => exact .rewrites rewrites on
  | _ => exact .of_records (fun _ => rfl) fun _ hc => hc

theorem Link.Work.controlList {x y : Link} (work : x.Work y) : y.controlList = x.controlList := by
  cases work <;> rfl

theorem Move.onlyOn (h : Move l s t) : OnlyOn l s t := by
  cases h with
  | tweak tweak => exact tweak.onlyOn
  | work work =>
    refine .of_records (fun _ => rfl) fun c hc => ?_
    rw [State.link_setLink_self, work.controlList] at hc
    exact hc
  | record on _ _ _ rewrites => exact .rewrites rewrites on
  | opens _ _ _ steps =>
    have row := OnlyOn.of_row RecordStep.onlyOn steps
    exact ⟨row.records, row.control⟩
  | answer item =>
    refine .of_records (by simp) fun c hc => ?_
    rw [State.link_answer] at hc
    split at hc <;> exact hc
  | loses cause =>
    refine .of_records (by simp [State.linkDown]) fun c hc => ?_
    rw [State.link_onLink_self, State.link_linkDown] at hc
    cases hc
  | stops cause =>
    refine .of_records (by simp [State.stopLink, State.linkDown]) fun c hc => ?_
    rw [State.link_stopLink, State.link_linkDown, Link.afterCut_down] at hc
    cases hc
  | halts =>
    refine .of_records (by simp [State.stopLink]) fun c hc => ?_
    rw [State.link_stopLink] at hc
    have kept : (s.link l).afterCut.controlList = (s.link l).controlList := by
      unfold Link.afterCut
      split <;> rfl
    exact kept ▸ hc
  | endsFrame =>
    refine .of_records (by simp) fun c hc => ?_
    unfold State.endFrame at hc
    rw [State.link_onLink_self, State.link_clearLine] at hc
    exact hc

theorem Claim.onlyOn (h : Claim i l s t) : OnlyOn l s t := by
  have row {u v : State} (moves : Moves l u v) : OnlyOn l u v := .of_row Move.onlyOn moves
  cases h with
  | moves moves => exact row moves
  | once before once after =>
    refine (row before).trans (OnlyOn.trans ?_ (row after))
    cases once with
    | allocates on _ first _ allocates => exact (row first).trans (.allocates allocates on)
    | frees on _ frees => exact .frees frees on
    | accepts on _ _ rewrites => exact .rewrites rewrites on
    | offers on _ rewrites => exact .rewrites rewrites on
    | delivers on _ _ _ rewrites => exact .rewrites rewrites on

/-- A boundary of the link serves circuits of the link alone, where its control list names no other (R104). -/
theorem Start.records (h : Start l s t)
    (own : ∀ c ∈ (s.link l).controlList, ∀ r, s.record c = some r → r.link = l) (hr : s.record c = some r)
    (other : r.link ≠ l) : t.record c = some r := by
  cases h with
  | @control d q k _ _ _ head before =>
    have linked := own d (head ▸ List.mem_cons_self) q before
    have apart : c ≠ d := fun same => by
      subst same
      rw [hr] at before
      cases before
      exact other linked
    exact (State.record_setRecord_ne s _ apart).trans hr
  | data _ _ _ eligible _ rewrites =>
    exact (OnlyOn.rewrites rewrites (Record.sends_of_eligible eligible).1).records c r hr other
  | _ => exact hr

/-- What the ROOM rule leaves of a record (R99). -/
def Record.Roomed (r r' : Record) : Prop := r' = r ∨ r' = { r with roomWanted := false }

theorem Record.Roomed.trans (h : r.Roomed x) (g : x.Roomed r') : r.Roomed r' := by
  rcases h with rfl | rfl
  · exact g
  · rcases g with rfl | rfl
    · exact .inr rfl
    · exact .inr rfl

theorem State.At.roomed (row : ReflTransGen RoomStep s t) (c : CircuitNo) : State.At Record.Roomed c s t := by
  induction row with
  | refl => exact .of_same (fun _ => .inl rfl) rfl
  | tail _ last ih =>
    obtain ⟨_, _, _, rewrites⟩ := last
    exact ih.comp (.rewrites (fun _ => .inl rfl) rewrites (.inr rfl)) fun _ _ _ => Record.Roomed.trans

theorem State.At.after {R : Record → Record → Prop} (h : State.At R c s t) (hr : s.record c = some r) :
    ∃ r', t.record c = some r' ∧ R r r' := by
  cases h with
  | free _ before => rw [hr] at before; cases before
  | holds _ before after step =>
    rw [hr] at before
    cases before
    exact ⟨_, after, step⟩

theorem State.At.of_after {R : Record → Record → Prop} (h : State.At R c s t) (hr : t.record c = some r') :
    ∃ r, s.record c = some r ∧ R r r' := by
  cases h with
  | free _ _ after => rw [hr] at after; cases after
  | holds _ before after step =>
    rw [hr] at after
    cases after
    exact ⟨_, before, step⟩

theorem Record.Roomed.link (h : r.Roomed r') : r'.link = r.link := by
  rcases h with rfl | rfl
  · rfl
  · rfl

/-- The end of a claim on a link, as the records of the other links see it. -/
theorem State.finishClaim_others (b : State)
    (own : ∀ c ∈ (s.link l).controlList, ∀ r, s.record c = some r → r.link = l) (hr : s.record c = some r)
    (other : r.link ≠ l) : ∃ r', (State.finishClaim b s l).record c = some r' ∧ r.Roomed r' := by
  have rooms (d : CircuitNo) := State.At.roomed (State.afterReturns_steps b s) d
  obtain ⟨r', hr', roomed⟩ := (rooms c).after hr
  refine ⟨r', (Start.boundary l (State.afterReturns b s)).records (fun d hd q hq => ?_) hr'
    (roomed.link ▸ other), roomed⟩
  obtain ⟨q', hq', was⟩ := (rooms d).of_after hq
  simp only [State.afterReturns_frame] at hd
  exact was.link.trans (own d hd q' hq')

theorem ControlListLaw.own (h : ControlListLaw s) (l : LinkNo) :
    ∀ c ∈ (s.link l).controlList, ∀ r, s.record c = some r → r.link = l := by
  intro c hc r hr
  obtain ⟨q, hq, on, -⟩ := ((h l).2 c).1 hc
  change s.record c = some q at hq
  rw [hr] at hq
  cases hq
  exact on

/-- An event of a line or of a link's timers, as far as the other links and the window go. -/
theorem Event.ofLine (event : Event i s t) (line : lineOf i = some l) (law : ControlListLaw s) :
    (∀ m, m ≠ l → t.link m = s.link m)
      ∧ (∀ c r, s.record c = some r → r.link ≠ l → ∃ r', t.record c = some r' ∧ r.Roomed r')
      ∧ s.SameOutside t := by
  have stays {u : State} (only : OnlyOn l s u) (c : CircuitNo) (r : Record) (hr : s.record c = some r)
      (other : r.link ≠ l) : ∃ r', u.record c = some r' ∧ r.Roomed r' :=
    ⟨r, only.records c r hr other, .inl rfl⟩
  cases event with
  | skip => exact ⟨fun _ _ => rfl, stays (.refl l s), .refl s⟩
  | window w _ host => simp [line] at host
  | quiet k w _ own tweaks =>
    obtain ⟨rfl, rfl⟩ := own l line
    have same := State.sameOutside_of_row Tweak.sameOutside tweaks
    rw [same.eq_withOutside]
    exact ⟨fun m other => otherLink_of_row (fun step => Tweak.otherLink step other) tweaks,
      stays (.of_row Tweak.onlyOn tweaks), same⟩
  | @claim u v k b w _ own claim tweaks =>
    obtain ⟨rfl, rfl⟩ := own l line
    have same := (claim.sameOutside.trans (.finishClaim b u l)).trans
      (State.sameOutside_of_row Tweak.sameOutside tweaks)
    rw [same.eq_withOutside]
    have row : OnlyOn l (State.finishClaim b u l) v := .of_row Tweak.onlyOn tweaks
    refine ⟨fun m other => ?_, fun c r hr other => ?_, same⟩
    · rw [otherLink_of_row (fun step => Tweak.otherLink step other) tweaks, State.finishClaim,
        (Start.boundary l _).otherLink other, ← claim.otherLink other]
      simp
    · have only := claim.onlyOn
      obtain ⟨r', hr', roomed⟩ := State.finishClaim_others (l := l) b (only.control (law.own l))
        (only.records c r hr other) other
      exact ⟨r', row.records c r' hr' (roomed.link ▸ other), roomed⟩
  | release w _ command => simp [command, lineOf] at line
  | services w _ host => simp [line] at host
  | withdraws _ _ _ _ host => simp [line] at host
  | clears w _ command => simp [command, lineOf] at line
  | resets _ _ pin => simp [pin, lineOf] at line
  | released pin => simp [pin, lineOf] at line
  | rises _ power => simp [power, lineOf] at line
  | powers _ _ power => simp [power, lineOf] at line

/-- Settles O60: the links, the other links' records and the window by `Event.ofLine`, the allocation by
`Event.fate`. -/
theorem linesReachOnlyTheirOwnLink : Obligations.LinesReachOnlyTheirOwnLink := by
  unfold Obligations.LinesReachOnlyTheirOwnLink
  intro i l s t line law next
  have event := event_of_exec next
  obtain ⟨links, records, outside, held, -⟩ := event.ofLine line law
  refine ⟨links, fun c r hr other => ?_, fun c r free hr => ?_, congrArg Outside.word0 outside,
    congrArg Outside.args outside, congrArg Outside.data outside, congrArg Outside.done outside,
    congrArg Outside.collide outside, congrArg Outside.command outside, congrArg Outside.settings outside,
    congrArg Outside.noticeEnable outside, congrArg Outside.completionEnable outside, held,
    congrArg Outside.pending outside⟩
  · obtain ⟨r', hr', rfl | rfl⟩ := records c r hr other
    · exact .inl hr'
    · exact .inr hr'
  · cases event.fate c with
    | goesOn h =>
      cases h with
      | free _ _ after => rw [hr] at after; cases after
      | holds _ before => rw [free] at before; cases before
    | allocated _ after _ own =>
      rw [hr] at after
      cases after
      exact own l line
    | freed before => rw [free] at before; cases before
    | powered _ after => rw [hr] at after; cases after

end Sys2Proof.Machine
end

section
/-! PROOFS. The host port (chapter 9): bus writes and reads of the window, the command codes, the replies
of PART-QUERY, POOL-QUERY and BAD_COMMAND. -/

namespace Sys2Proof.Machine
set_option Elab.async false

variable {s : State}

/-! ### The queue -/

/-- Settles O1. -/
theorem stepTakesTheFrontEvent : Obligations.StepTakesTheFrontEvent := by
  intro i s rest h
  simp [step, h]

/-! ### Bus writes -/

/-- A running part takes its events. -/
theorem State.unlessHeld_of_running (running : s.held = false) (f : State → State) :
    s.unlessHeld f = .next (f s) := by
  simp [State.unlessHeld, running]

theorem State.mailbox_of_idle (idle : s.command = none) (f : State → State) : s.mailbox f = f s := by
  simp [State.mailbox, State.busy, idle]

theorem State.mailbox_of_busy (busy : s.command ≠ none) (f : State → State) :
    s.mailbox f = { s with collide := true } := by
  simp [State.mailbox, State.busy, Option.isSome_iff_ne_none.2 busy]

/-- The place of each ARG word in the window (R163). -/
theorem argIndex_arg (k : Fin 8) : argIndex (BitVec.ofNat 5 (4 + k.val)).toNat = some k := by
  have small : (4 + k.val) % 2 ^ 5 = 4 + k.val := Nat.mod_eq_of_lt (by omega)
  simp only [argIndex, BitVec.toNat_ofNat, small]
  rw [dif_pos (by omega)]
  simp

/-- The DATA words are no ARG words. -/
theorem argIndex_data (k : Fin 16) : argIndex (BitVec.ofNat 5 (12 + k.val)).toNat = none := by
  have small : (12 + k.val) % 2 ^ 5 = 12 + k.val := Nat.mod_eq_of_lt (by omega)
  simp only [argIndex, BitVec.toNat_ofNat, small]
  rw [dif_neg (by omega)]

/-- The place of each DATA word in the window (R163). -/
theorem dataIndex_data (k : Fin 16) : dataIndex (BitVec.ofNat 5 (12 + k.val)).toNat = some k := by
  have small : (12 + k.val) % 2 ^ 5 = 12 + k.val := Nat.mod_eq_of_lt (by omega)
  simp only [dataIndex, BitVec.toNat_ofNat, small]
  rw [dif_pos (by omega)]
  simp

/-- A word above STATUS, CONTROL and word 0. -/
theorem word_ne_low {word : BitVec 5} (h : 3 ≤ word.toNat) : word ≠ 0 ∧ word ≠ 1 ∧ word ≠ 2 := by
  refine ⟨?_, ?_, ?_⟩ <;> rintro rfl <;> exact absurd h (by decide)

/-- A write above CONTROL goes to an ARG word, to a DATA word, or nowhere (R163). -/
theorem State.busWrite_high {word : BitVec 5} (high : 3 ≤ word.toNat) (value : Word) :
    s.busWrite word value =
      match argIndex word.toNat with
      | some k => s.mailbox fun s => { s with args := s.args.set k value }
      | none =>
        match dataIndex word.toNat with
        | some k => s.mailbox fun s => { s with data := s.data.set k value }
        | none => s := by
  obtain ⟨h0, h1, h2⟩ := word_ne_low high
  exact (if_neg h0).trans ((if_neg h1).trans (if_neg h2))

theorem State.busWrite_arg (k : Fin 8) (value : Word) :
    s.busWrite (BitVec.ofNat 5 (4 + k.val)) value
      = s.mailbox fun s => { s with args := s.args.set k value } := by
  rw [State.busWrite_high (by simp; omega), argIndex_arg]

theorem State.busWrite_data (k : Fin 16) (value : Word) :
    s.busWrite (BitVec.ofNat 5 (12 + k.val)) value
      = s.mailbox fun s => { s with data := s.data.set k value } := by
  rw [State.busWrite_high (by simp; omega), argIndex_data, dataIndex_data]

/-- While a command is in progress a write to any ARG or DATA word is dropped (R166). -/
theorem State.busWrite_of_busy {word : BitVec 5} (low : 4 ≤ word.toNat) (high : word.toNat < 28)
    (busy : s.command ≠ none) (value : Word) : s.busWrite word value = { s with collide := true } := by
  rw [State.busWrite_high (by omega)]
  by_cases arg : word.toNat < 12
  · simp [argIndex, low, arg, State.mailbox_of_busy busy]
  · simp [argIndex, arg, dataIndex, high, Nat.le_of_not_lt arg, State.mailbox_of_busy busy]

/-- The words that no write changes (R163). -/
theorem State.busWrite_nowhere {word : BitVec 5} (h : word = 3 ∨ 28 ≤ word.toNat) (value : Word) :
    s.busWrite word value = s := by
  have place : word.toNat = 3 ∨ 28 ≤ word.toNat := h.imp (fun e => by rw [e]; rfl) id
  rw [State.busWrite_high (by omega)]
  have noArg : ¬ (4 ≤ word.toNat ∧ word.toNat < 12) := by omega
  have noData : ¬ (12 ≤ word.toNat ∧ word.toNat < 28) := by omega
  simp only [argIndex, dataIndex, noArg, noData, dif_neg, not_false_eq_true]

/-- Settles O2, word by word of the window. -/
theorem busWritesChangeTheWindow : Obligations.BusWritesChangeTheWindow := by
  intro s value running
  have start : exec (.commandStart value) s = .next (s.mailbox fun s => s.startCommand value) :=
    State.unlessHeld_of_running running (State.busWrite · 0 value)
  have write (word : BitVec 5) : exec (.mailboxWrite word value) s = .next (s.busWrite word value) :=
    State.unlessHeld_of_running running (State.busWrite · word value)
  refine ⟨fun idle => ?_, fun busy => ?_, fun k idle => ?_, fun k idle => ?_, fun word low high busy => ?_,
    fun word nowhere => ?_, rfl, rfl, rfl, State.unlessHeld_of_running running (State.busWrite · 1 value),
    State.unlessHeld_of_running running (State.busWrite · 2 value)⟩
  · rw [start, State.mailbox_of_idle idle]; rfl
  · rw [start, State.mailbox_of_busy busy]
  · rw [write, State.busWrite_arg, State.mailbox_of_idle idle]
  · rw [write, State.busWrite_data, State.mailbox_of_idle idle]
  · rw [write, State.busWrite_of_busy low high busy]
  · rw [write, State.busWrite_nowhere nowhere]

/-! ### Bus reads and INT -/

/-- The bits of a word that flags of four and four bits make up, as in STATUS (R163). -/
theorem statusBits (busy done notice collide : Bool) (up : Fin 4 → Bool) :
    let w := wordOf (flag busy 0x1 + flag done 0x2 + flag notice 0x4 + flag collide 0x8
      + flag (up 0) 0x100 + flag (up 1) 0x200 + flag (up 2) 0x400 + flag (up 3) 0x800)
    w.getLsbD 0 = busy ∧ w.getLsbD 1 = done ∧ w.getLsbD 2 = notice ∧ w.getLsbD 3 = collide
      ∧ (∀ l : Fin 4, w.getLsbD (8 + l.val) = up l)
      ∧ ∀ b : Fin 16, ((4 ≤ b.val ∧ b.val < 8) ∨ 12 ≤ b.val) → w.getLsbD b.val = false := by
  revert up busy done notice collide
  decide

/-- The bits of CONTROL (R163). -/
theorem controlBits (notice completion : Bool) :
    let w := wordOf (flag notice 0x1 + flag completion 0x2)
    w.getLsbD 0 = notice ∧ w.getLsbD 1 = completion
      ∧ ∀ b : Fin 16, 2 ≤ b.val → w.getLsbD b.val = false := by
  revert notice completion
  decide

/-- A claim about the bits of a word from some bit on is one about its sixteen bits. -/
theorem bits_clear {w : Word} {p : Nat → Prop} (h : ∀ b : Fin 16, p b.val → w.getLsbD b.val = false) (b : Nat)
    (hb : p b) : w.getLsbD b = false := by
  by_cases small : b < 16
  · exact h ⟨b, small⟩ hb
  · exact BitVec.getLsbD_of_ge w b (by omega)

/-- A bus read above CONTROL. -/
theorem State.busRead_high {word : BitVec 5} (running : s.held = false) (high : 4 ≤ word.toNat) :
    s.busRead word =
      match argIndex word.toNat with
      | some k => some s.args[k]
      | none =>
        match dataIndex word.toNat with
        | some k => some s.data[k]
        | none => some 0 := by
  obtain ⟨h0, h1, h2⟩ := word_ne_low (by omega : 3 ≤ word.toNat)
  have h3 : word ≠ 3 := by rintro rfl; exact absurd high (by decide)
  have drives : ¬ s.held = true := by simp [running]
  exact (if_neg drives).trans ((if_neg h0).trans ((if_neg h1).trans ((if_neg h2).trans (if_neg h3))))

/-- Settles O3: the bits of STATUS and CONTROL are decided once for all flags. -/
theorem busReadsAndTheInterruptLine : Obligations.BusReadsAndTheInterruptLine := by
  intro s running
  obtain ⟨hbusy, hdone, hnotice, hcollide, hup, hrest⟩ :=
    statusBits s.busy s.done s.noticeFlag s.collide s.upBit
  obtain ⟨hn, hc, hcrest⟩ := controlBits s.noticeEnable s.completionEnable
  refine ⟨by simp [State.busRead, running], ⟨s.statusWord, by simp [State.busRead, running],
    hbusy, hdone, hnotice, hcollide, hup, bits_clear hrest⟩, ⟨s.controlWord, by simp [State.busRead, running],
    hn, hc, bits_clear hcrest⟩, by simp [State.busRead, running, Config.ident], fun k => ?_, fun k => ?_,
    fun word high => ?_, ?_⟩
  · rw [State.busRead_high running (by simp; omega), argIndex_arg]
  · rw [State.busRead_high running (by simp; omega), argIndex_data, dataIndex_data]
  · rw [State.busRead_high running (by omega)]
    have noArg : ¬ (4 ≤ word.toNat ∧ word.toNat < 12) := by omega
    have noData : ¬ (12 ≤ word.toNat ∧ word.toNat < 28) := by omega
    simp only [argIndex, dataIndex, noArg, noData, dif_neg, not_false_eq_true]
  · simp [State.intAsserted, State.noticeFlag, running]

/-! ### Command codes -/

/-- The 24 command codes of R169. -/
def commandCodes : List Nat :=
  [0x01, 0x02, 0x03, 0x08, 0x09, 0x0A, 0x0B, 0x10, 0x11, 0x12, 0x13, 0x18, 0x19, 0x1A, 0x1B,
   0x1C, 0x1D, 0x1E, 0x1F, 0x20, 0x28, 0x29, 0x30, 0x31]

/-- A byte that is none of the 24 codes names no command (R169). -/
theorem commandOfCode_of_unlisted {code : Byte} (h : code.toNat ∉ commandCodes) :
    commandOfCode code = .bad := by
  unfold commandOfCode
  split <;> simp_all [commandCodes]

theorem commandOfWrite_of_highByte {value : Word} (h : 256 ≤ value.toNat) : commandOfWrite value = .bad := by
  rw [commandOfWrite, if_neg (by omega)]

/-- Settles O4. -/
theorem commandCodesNameTheCommands : Obligations.CommandCodesNameTheCommands := by
  refine ⟨fun value => commandOfWrite_of_highByte, rfl, rfl, rfl, rfl, rfl, rfl, rfl, rfl, rfl, rfl, rfl, rfl,
    rfl, rfl, rfl, rfl, rfl, rfl, rfl, rfl, rfl, rfl, rfl, rfl, fun value unlisted => ?_⟩
  by_cases high : 256 ≤ value.toNat
  · exact commandOfWrite_of_highByte high
  · have low : (value.setWidth 8).toNat = value.toNat := by
      rw [BitVec.toNat_setWidth, Nat.mod_eq_of_lt (by omega)]
    rw [commandOfWrite, if_pos (by omega)]
    exact commandOfCode_of_unlisted (by rw [low]; exact unlisted)

/-! ### Completions -/

/-- A reply with ARG words, after an effect that leaves them to the reply (R167). -/
theorem State.complete_words {t : State} (args : t.args = s.args) (cmd : Command) (result : ResultCode)
    (words : List (Fin 8 × Word)) :
    t.complete cmd { result := result, args := words } =
      { t.settled cmd result.code with args := writeWords s.args words } := by
  rw [State.complete_args, args]

/-! ### Replies that fill the ARG words -/

/-- A reply that names every ARG word leaves just its words (R167). -/
theorem writeWords_eight (v : Vector Word 8) (a b c d e f g h : Word) :
    writeWords v [(0, a), (1, b), (2, c), (3, d), (4, e), (5, f), (6, g), (7, h)]
      = #v[a, b, c, d, e, f, g, h] := by
  ext i hi
  match i, hi with
  | 0, _ | 1, _ | 2, _ | 3, _ | 4, _ | 5, _ | 6, _ | 7, _ => simp [writeWords]

/-- Settles O6; the transmit cells in use are what the free cells leave of the pool. -/
theorem partPoolAndBadCommandReplies : Obligations.PartPoolAndBadCommandReplies := by
  intro s cmd
  refine ⟨fun h => ?_, fun h pool => ?_, fun h => State.completing_of_completes h _⟩
  · refine (State.completing_of_completes h _).trans ?_
    rw [State.complete_args, writeWords_eight]
    rfl
  · refine (State.completing_of_completes h _).trans ?_
    have used : Config.transmitCells - s.txFree
        = (s.sumRecords fun r => r.txQueue.length) + s.cellsOnLines := by
      have := pool; omega
    rw [State.complete_args, used]
    rfl

/-! ### Power-on -/

/-- Settles O9. -/
theorem powerOnValues : Obligations.PowerOnValues := rfl

end Sys2Proof.Machine
end

section
/-! PROOFS. The resets (chapter 9, section 9.5): RESETN, the power-on hold, CLEAR, and the laws of the part
right after power-on. -/

namespace Sys2Proof.Machine
set_option Elab.async false

variable {s : State}

/-! ### RESETN and power-on -/

/-- The receiver of a link as it begins to watch its input after a reset (R151). -/
theorem receiverAt_eq (loopback : Bool) (level : LineLevel) :
    receiverAt loopback level = if loopback = true ∨ level = .mark then .ready else .waiting := by
  cases loopback <;> cases level <;> rfl

/-- The state after a RESETN pulse, field by field (R176). -/
theorem State.resetn_eq (s : State) (rxd : Vector LineLevel 4) :
    s.resetn rxd =
      { State.reset with
        circuits := s.circuits.map fun x => { x with record := none }
        links := Vector.ofFn fun l : Fin 4 =>
          { Link.reset with
            ownEpoch := (s.link l).ownEpoch
            peerEpoch := (s.link l).peerEpoch
            config := (s.link l).config
            receiver :=
              if (s.link l).config.loopback = true ∨ rxd[l] = .mark then .ready else .waiting }
        held := true
        pending := s.pending } := by
  have links : (s.links.mapFinIdx fun k x h => x.resetn rxd[k])
      = Vector.ofFn fun l : Fin 4 => (s.link l).resetn rxd[l] := by
    ext k hk
    · simp [State.link]
  rw [State.resetn, links]
  simp only [Link.resetn, receiverAt_eq]
  rfl

/-- Every event but the release and the power-on is one that a held part does not take (R177). -/
theorem exec_of_held {i : Instr} (held : s.held = true) (release : i ≠ .resetnRelease)
    (power : ∀ moment rxd, i ≠ .powerOn moment rxd) : exec i s = .next s := by
  obtain ⟨⟩ := s
  obtain rfl : _ = true := held
  cases i with
  | resetnRelease => exact absurd rfl release
  | powerOn moment rxd => exact absurd rfl (power moment rxd)
  | _ => rfl

/-- A pulse acts from 500 ns on (R176). -/
theorem exec_resetnPulse (running : s.held = false) (lowNs : Nat) (rxd : Vector LineLevel 4) :
    exec (.resetnPulse lowNs rxd) s = .next (if lowNs < 500 then s else s.resetn rxd) :=
  State.unlessHeld_of_running running fun s => if lowNs < 500 then s else s.resetn rxd

/-- Settles O10. -/
theorem resetPinHoldAndPowerOn : Obligations.ResetPinHoldAndPowerOn := by
  refine ⟨fun s lowNs rxd running => ⟨fun short => ?_, fun long => ?_⟩, fun s rxd => ?_, fun s off => ?_,
    fun s on => ?_, fun s low rxd => ?_, fun i s held release power => ⟨exec_of_held held release power, ?_, ?_, ?_⟩⟩
  · rw [exec_resetnPulse running, if_pos short]
  · rw [exec_resetnPulse running, if_neg (Nat.not_lt.2 long), s.resetn_eq rxd]
  · exact congrArg (fun t : State => Host.Outcome.next { t with powering := true }) (s.resetn_eq rxd)
  · exact congrArg _ (if_neg (by simp [off]))
  · exact congrArg _ (if_pos on)
  · have receivers (l : Fin 4) : receiverAt false rxd[l] = if rxd[l] = .mark then .ready else .waiting := by
      simp [receiverAt_eq]
    change Host.Outcome.next (s.endPowerHold low rxd) = _
    simp only [State.endPowerHold, receivers]
  · simp [State.intAsserted, held]
  · exact fun l => by simp [State.outputAtMark, held]
  · exact fun word => by simp [State.busRead, held]

/-! ### CLEAR -/

/-- What CLEAR does to a link, field by field (R113, R138). -/
theorem Link.clear_eq (x : Link) (h : Nat) :
    x.clear h =
      if x.state = .stopped then { x with lastServed := Vector.replicate 4 63 }
      else
        { x with
          lastServed := Vector.replicate 4 63
          state := .seeking
          ownEpoch := if x.ownEpoch = 65535 then 1 else x.ownEpoch + 1
          peerEpoch := 0
          helloDue := true
          helloTimer := some h
          deadTimer := none
          controlList := []
          answerList := [] } := by
  unfold Link.clear
  split
  · rename_i stopped; rw [if_pos stopped]
  · rename_i running; rw [if_neg running]; rfl

/-- The tables after CLEAR, field by field (R174). -/
theorem State.cleared_eq (s : State) :
    s.cleared = { s with
      circuits := s.circuits.map fun x => { x with record := none }
      services := []
      reservationTotal := 0
      cellsHeld := 0
      txFree := 256 - s.cellsOnLines
      links := s.links.map fun x =>
        if x.state = .stopped then { x with lastServed := Vector.replicate 4 63 }
        else
          { x with
            lastServed := Vector.replicate 4 63
            state := .seeking
            ownEpoch := if x.ownEpoch = 65535 then 1 else x.ownEpoch + 1
            peerEpoch := 0
            helloDue := true
            helloTimer := some (s.settings.hello * 10)
            deadTimer := none
            controlList := []
            answerList := [] }
      circuitNotices := Vector.replicate 64 { }
      linkNotices := Vector.replicate 4 { }
      noticeList := [] } := by
  simp only [State.cleared, Link.clear_eq]
  rfl

/-- The completion of CLEAR (R174). -/
theorem exec_clear {cmd : Command} (h : s.completes .clear cmd) :
    exec .clear s = .next
      { s.cleared.boundaries.settled cmd 0 with
        args := writeWords s.args
          [(0, wordOf (allCircuits.countP fun c => (s.record c).isSome)), (1, wordOf s.services.length),
            (2, wordOf (allLinks.countP fun l => decide ((s.link l).state ≠ .stopped)))] } := by
  simp only [List.countP_eq_length_filter]
  have args : s.cleared.boundaries.args = s.args := by simp [s.cleared_eq]
  change execClear s = _
  rw [execClear, State.completing_of_completes h]
  dsimp only
  generalize s.cleared.boundaries = u at args
  rw [State.complete_args, args]
  rfl

/-- Settles O11. -/
theorem clearEmptiesTheTables : Obligations.ClearEmptiesTheTables := by
  intro s cmd h
  have row := exec_clear h
  rw [s.cleared_eq] at row
  exact row

/-! ### Power-on -/

theorem State.link_reset (l : LinkNo) : State.reset.link l = Link.reset := by
  simp [State.link, State.reset]

/-- Settles O57: after power-on nothing is allocated, listed or pending, and every link is stopped. -/
theorem powerOnStateKeepsEveryLaw : Obligations.PowerOnStateKeepsEveryLaw := by
  have free (c : CircuitNo) : State.reset.record c = none := record_reset rfl c
  have none {p : CircuitNo → Record → Prop} : State.reset.everyRecord p := fun c r hr => by
    rw [free c] at hr
    cases hr
  have pools : PoolLaws State.reset := .of_free free rfl rfl
    (congrArg (· + Config.transmitCells) (State.cellsOnLines_of_idle fun m => by rw [State.link_reset]; rfl))
  have lists : ListLaws State.reset := .of_free free (fun m => by rw [State.link_reset]; rfl)
    (fun m => by rw [State.link_reset]; rfl) fun m => by rw [State.link_reset]; exact fun _ => ⟨rfl, rfl, rfl, rfl⟩
  have sound : LinksSound State.reset := fun m => by
    rw [State.link_reset]
    exact Link.sound_of_stopped rfl rfl rfl rfl rfl (fun _ => by simp [Link.reset]) rfl
  have idle : IdleLaw State.reset := fun m => by
    rw [State.link_reset]
    exact ⟨fun running => absurd rfl running, fun _ => ⟨rfl, rfl, rfl, rfl⟩⟩
  have services : ServiceLaws State.reset := .of_free rfl free
  have notices : NoticeLaws State.reset := .of_empty rfl rfl rfl
  exact ⟨notices.1, notices.2, pools.reservation, pools.cellsHeld, pools.transmit, pools.queues, none, none,
    services.table, lists.control, lists.owed, lists.live, lists.answers, idle, services.active, none, none,
    .of_free free, fun m => (sound m).dead, fun m => (sound m).epoch,
    fun m => ⟨(sound m).transmitter, (sound m).receiver, (sound m).path, (sound m).stopped⟩,
    ⟨fun on => absurd on (by decide), fun held => absurd held (by decide)⟩, none⟩

end Sys2Proof.Machine
end

section
/-! PROOFS. The commands on one circuit (chapters 1 to 3): CIRCUIT-QUERY, CIRCUIT-RELEASE, CIRCUIT-AMEND,
CIRCUIT-ANSWER, CIRCUIT-REFUSE, CIRCUIT-CLOSE and CIRCUIT-ABORT. -/

namespace Sys2Proof.Machine
set_option Elab.async false

variable {s : State} {cmd : Command} {c : CircuitNo} {r : Record}

/-! ### The circuit that a command names -/

@[simp] theorem circuitOf_val (c : CircuitNo) : circuitOf c.val = some c := by
  simp [circuitOf]

/-- A command that names a circuit works on its record (R2). -/
theorem State.forCircuit_of_names (names : s.names cmd c r) (f : CircuitNo → Record → Reply × State) :
    s.forCircuit cmd f = f c r := by
  obtain ⟨word, before⟩ := names
  simp [State.forCircuit, State.named, word, before]

/-! ### CIRCUIT-QUERY -/

/-- A reply that names every DATA word leaves just its words (R167). -/
theorem writeWords_sixteen (v : Vector Word 16) (a b c d e f g h i j k l m n o p : Word) :
    writeWords v [(0, a), (1, b), (2, c), (3, d), (4, e), (5, f), (6, g), (7, h), (8, i), (9, j), (10, k),
      (11, l), (12, m), (13, n), (14, o), (15, p)] = #v[a, b, c, d, e, f, g, h, i, j, k, l, m, n, o, p] := by
  ext x hx
  match x, hx with
  | 0, _ | 1, _ | 2, _ | 3, _ | 4, _ | 5, _ | 6, _ | 7, _ | 8, _ | 9, _ | 10, _ | 11, _ | 12, _ | 13, _
  | 14, _ | 15, _ => simp [writeWords]
  | x + 16, hx => exact absurd hx (by omega)

/-- The address that CIRCUIT-QUERY gives for a record with no recorded peer (R19). -/
theorem peerWord_eq (p : Option Peer) :
    pack (p.getD { circuit := 255, generation := 0 }).circuit (p.getD { circuit := 255, generation := 0 }).generation
      = match p with
        | none => pack 255 0
        | some p => pack p.circuit p.generation := by
  cases p <;> rfl

/-- The close reason of CIRCUIT-QUERY, 0 when absent (R9, R19). -/
theorem Phase.closeReasonCode_eq (p : Phase) :
    p.closeReasonCode = match p with
      | .closing .normal => 1
      | .closing .loss => 3
      | .closing .violation => 4
      | _ => 0 := by
  cases p with
  | closing reason => cases reason <;> rfl
  | _ => rfl

/-- The end cause and the end detail of CIRCUIT-QUERY, 0 when absent (R10, R19). -/
theorem Phase.endWord_eq (p : Phase) :
    pack (byteOf p.endCode) p.endDetail = match p with
      | .ended cause detail _ => pack (byteOf cause.code) (detail.getD 0)
      | _ => 0 := by
  have absent : pack (byteOf 0) 0 = 0 := by decide
  cases p with
  | ended cause detail discarded => rfl
  | _ => exact absent

/-- The room-wanted flag of CIRCUIT-QUERY (R19). -/
theorem roomWord_eq (b : Bool) : byteOf (if b then 1 else 0) = if b then 1 else 0 := by
  cases b <;> rfl

/-- The frames discarded of CIRCUIT-QUERY, 0 when absent (R10, R19). -/
theorem Phase.discardedWord_eq (p : Phase) :
    wordOf p.framesDiscarded = match p with
      | .ended _ _ discarded => wordOf discarded
      | _ => 0 := by
  cases p <;> rfl

/-- Settles O12. -/
theorem circuitQueryReturnsEveryField : Obligations.CircuitQueryReturnsEveryField := by
  refine ⟨fun x => ?_, fun p => by cases p <;> rfl, fun d => by cases d <;> rfl, fun e => by cases e <;> rfl,
    fun s cmd c r h names => ?_⟩
  · unfold Circuit.stateCode
    cases x.record <;> rfl
  · change execCircuitQuery s = _
    rw [execCircuitQuery, State.completing_of_completes h, State.forCircuit_of_names names]
    simp only [queryReply, State.complete, writeWords_eight, writeWords_sixteen, peerWord_eq,
      Phase.closeReasonCode_eq, Phase.endWord_eq, Phase.discardedWord_eq, Owed.flags, flag,
      roomWord_eq]
    rfl

/-! ### CIRCUIT-RELEASE -/

theorem bne_eq_decide_ne {α : Type} [DecidableEq α] (a b : α) : (a != b) = decide (a ≠ b) := by
  by_cases h : a = b <;> simp [h]

/-- A record goes to FREE, field by field (R20, R157). -/
theorem State.freeCircuit_eq (before : s.record c = some r) :
    s.freeCircuit c = { s with
      circuits := s.circuits.set c { generation := (s.circuit c).generation, record := none }
      cellsHeld := s.cellsHeld - r.rxQueue.length
      reservationTotal := s.reservationTotal - r.quota
      links := s.links.set r.link
        { s.link r.link with controlList := (s.link r.link).controlList.filter fun d => d ≠ c }
      circuitNotices := s.circuitNotices.set c { }
      noticeList := s.noticeList.filter fun x => x ≠ .circuit c } := by
  unfold State.freeCircuit
  rw [before]
  simp only [State.leaveControl, State.dropNotices, bne_eq_decide_ne]
  rfl

/-- Settles O13. -/
theorem circuitReleaseFreesAnEndedRecord : Obligations.CircuitReleaseFreesAnEndedRecord := by
  intro s cmd c r h names
  change (_ → execCircuitRelease s = _) ∧ (_ → execCircuitRelease s = _)
  rw [execCircuitRelease, State.completing_of_completes h, State.forCircuit_of_names names]
  refine ⟨fun live => ?_, fun ended => ?_⟩
  · rw [if_pos live]
    rfl
  · rw [if_neg (by simp [ended])]
    dsimp only
    rw [State.complete_words (s := s) (by simp), State.freeCircuit_eq names.2]
    rfl

/-! ### CIRCUIT-ANSWER -/

/-- Settles O21. -/
theorem circuitAnswerOpensAnOffer : Obligations.CircuitAnswerOpensAnOffer := by
  intro s cmd c r h names
  change (_ → execCircuitAnswer s = _) ∧ (_ → _ → execCircuitAnswer s = _) ∧ (_ → _ → execCircuitAnswer s = _)
  rw [execCircuitAnswer, State.completing_of_completes h, State.forCircuit_of_names names]
  refine ⟨fun other => ?_, fun offered high => ?_, fun offered low => ?_⟩
  · rw [if_pos other]
    rfl
  · have bad : (!inRange 0 1 cmd.args[1].toNat) = true := by simp [inRange]; omega
    rw [if_neg (by simp [offered]), if_pos bad]
    rfl
  · have good : ¬ (!inRange 0 1 cmd.args[1].toNat) = true := by simp [inRange]; omega
    rw [if_neg (by simp [offered]), if_neg good]
    dsimp only
    rw [State.complete_words (s := s) (by simp)]
    rfl

/-! ### CIRCUIT-CLOSE and CIRCUIT-ABORT -/

/-- ENDED is the one state of a record that is not live (R16). -/
theorem Phase.ended_of_dead {p : Phase} (h : p.live = false) :
    ∃ cause detail discarded, p = .ended cause detail discarded := by
  cases p with
  | ended cause detail discarded => exact ⟨cause, detail, discarded, rfl⟩
  | _ => simp [Phase.live] at h

theorem Phase.carriesData_cases {p : Phase} (h : p.carriesData = true) :
    p = .opened ∨ p = .draining ∨ ∃ reason, p = .closing reason := by
  cases p with
  | opened => exact .inl rfl
  | draining => exact .inr (.inl rfl)
  | closing reason => exact .inr (.inr ⟨reason, rfl⟩)
  | _ => simp [Phase.carriesData] at h

/-- Settles O24. -/
theorem circuitCloseAndAbortByState : Obligations.CircuitCloseAndAbortByState := by
  intro s cmd c r names
  refine ⟨fun h => ?_, fun h => ?_⟩
  · change (_ → execCircuitClose s = _) ∧ (_ → _ → execCircuitClose s = _) ∧ (_ → _ → execCircuitClose s = _)
    rw [execCircuitClose, State.completing_of_completes h, State.forCircuit_of_names names]
    refine ⟨fun other => ?_, fun opened queued => ?_, fun opened empty => ?_⟩
    · rw [if_pos other]
      rfl
    · rw [if_neg (by simp [opened]), if_neg (by simp [queued])]
      rfl
    · rw [if_neg (by simp [opened]), if_pos (by simp [empty])]
      dsimp only
      rw [State.complete_words (s := s) (by simp)]
      simp only [State.beginClosing, names.2]
      rfl
  · change (_ → execCircuitAbort s = _) ∧ (_ → execCircuitAbort s = _) ∧ (_ → execCircuitAbort s = _)
    rw [execCircuitAbort, State.completing_of_completes h, State.forCircuit_of_names names]
    refine ⟨fun ended => ?_, fun calling => ?_, fun carries => ?_⟩
    · obtain ⟨cause, detail, discarded, phase⟩ := Phase.ended_of_dead ended
      simp only [phase]
      rfl
    · simp only [calling]
      rw [State.complete_words (s := s) (by simp)]
      rfl
    · rcases Phase.carriesData_cases carries with phase | phase | ⟨reason, phase⟩
      all_goals
        simp only [phase]
        rw [State.complete_words (s := s) (by simp)]
        rfl

/-! ### Offers refused -/

/-- The refusal of an incoming offer, field by field (R44, R45). -/
theorem State.refuseOffer_eq {p : Peer} (before : s.record c = some r) (incoming : r.direction = .incoming)
    (peer : r.peer = some p) (reason : Byte) :
    s.refuseOffer c reason =
      let t := s.answer r.link (.refuse ⟨p.circuit, p.generation, 255, 0⟩ reason)
      { t with
        services := s.services.map fun e =>
          if e.number = r.service then { e with active := e.active - 1 } else e
        circuits := s.circuits.set c { generation := (s.circuit c).generation, record := none }
        links := t.links.set r.link
          { t.link r.link with
            controlList := (s.link r.link).controlList.filter fun d => d ≠ c }
        circuitNotices := s.circuitNotices.set c { }
        noticeList := s.noticeList.filter fun x => x ≠ .circuit c
        cellsHeld := s.cellsHeld - r.rxQueue.length
        reservationTotal := s.reservationTotal - r.quota } := by
  have control (item : AnswerItem) :
      ((s.answer r.link item).link r.link).controlList = (s.link r.link).controlList := by
    rw [State.link_answer]
    split <;> rfl
  unfold State.refuseOffer
  rw [before]
  simp only [peer, Option.getD_some]
  rw [State.freeCircuit_eq (r := r) (by simp [before]), ← control]
  simp only [State.uncount, incoming]
  rfl

/-- Settles O22. -/
theorem offersAreRefusedToFree : Obligations.OffersAreRefusedToFree := by
  refine ⟨fun s cmd c r h names other => ?_, fun s cmd c r p running before offered incoming peer => ?_⟩
  · change execCircuitRefuse s = _
    rw [execCircuitRefuse, State.completing_of_completes h, State.forCircuit_of_names names, if_pos other]
    rfl
  · intro refused
    have refuses (reason : Byte) : s.refuseOffer c reason = refused reason :=
      State.refuseOffer_eq before incoming peer reason
    have declines : (s.declineOffer c r).2.complete cmd (s.declineOffer c r).1 =
        { (State.finishClaim s (refused 6) r.link).settled cmd 0 with
          args := s.args.set 1 ((s.circuit c).generation.setWidth 16) } := by
      rw [← refuses]
      unfold State.declineOffer
      rw [State.complete_words (s := s) (by simp)]
      rfl
    refine ⟨fun h word => ?_, fun h word => ?_, fun hold => ?_⟩
    · change execCircuitRefuse s = _
      rw [execCircuitRefuse, State.completing_of_completes h, State.forCircuit_of_names ⟨word, before⟩,
        if_neg (by simp [offered]), declines]
    · change execCircuitAbort s = _
      rw [execCircuitAbort, State.completing_of_completes h, State.forCircuit_of_names ⟨word, before⟩]
      simp only [offered]
      rw [declines]
    · change execHoldTimerExpiry c s = _
      rw [execHoldTimerExpiry, State.unlessHeld_of_running running]
      simp only [before]
      rw [if_pos ⟨offered, Option.isSome_iff_ne_none.2 hold⟩, refuses]
      rfl

/-! ### CIRCUIT-AMEND -/

/-- The ranges of the selected values of CIRCUIT-AMEND (R23). -/
def Record.amendable (r : Record) (a : Vector Word 8) : Prop :=
  (a[1].getLsbD 0 = true → a[2].toNat ≤ 3)
    ∧ (a[1].getLsbD 1 = true → 1 ≤ a[3].toNat ∧ a[3].toNat ≤ r.quota)
    ∧ (a[1].getLsbD 2 = true → 1 ≤ a[4].toNat ∧ a[4].toNat ≤ 32 ∧ r.txQueue.length ≤ a[4].toNat)

/-- The record that CIRCUIT-AMEND leaves (R23). -/
def Record.amendedTo (r : Record) (a : Vector Word 8) (priority : Fin 4) : Record :=
  { r with
    priority := priority
    threshold := if a[1].getLsbD 1 then a[3].toNat else r.threshold
    depth := if a[1].getLsbD 2 then a[4].toNat else r.depth
    tag := if a[1].getLsbD 3 then a[5] else r.tag }

/-- CIRCUIT-AMEND takes the selected fields where all of them are in range (R23). -/
theorem amended_of_amendable {a : Vector Word 8} {priority : Fin 4} (h : r.amendable a)
    (selected : priority.val = if a[1].getLsbD 0 then a[2].toNat else r.priority.val) :
    amended a r = some (r.amendedTo a priority) := by
  obtain ⟨-, threshold, depth⟩ := h
  have takes : (if a[1].getLsbD 0 then priorityOf a[2].toNat else some r.priority) = some priority := by
    split at selected
    · rw [if_pos ‹_›, ← selected, priorityOf, dif_pos priority.isLt]
    · rw [if_neg ‹_›, Fin.ext selected]
  unfold amended
  rw [takes]
  dsimp only
  rw [if_neg, if_neg]
  · rfl
  · cases chosen : a[1].getLsbD 2 with
    | false => simp
    | true => simp [inRange_iff, depth chosen]
  · cases chosen : a[1].getLsbD 1 with
    | false => simp
    | true => simp [inRange_iff, threshold chosen]

/-- CIRCUIT-AMEND takes no field where one of them is out of range (R23). -/
theorem amendable_of_amended {a : Vector Word 8} {q : Record} (h : amended a r = some q) : r.amendable a := by
  unfold amended at h
  cases takes : (if a[1].getLsbD 0 then priorityOf a[2].toNat else some r.priority) with
  | none => rw [takes] at h; cases h
  | some priority =>
    rw [takes] at h
    dsimp only at h
    refine ⟨fun chosen => ?_, fun chosen => ?_, fun chosen => ?_⟩
    · rw [if_pos chosen] at takes
      by_contra high
      simp [priorityOf, show ¬ a[2].toNat < 4 by omega] at takes
    · rw [chosen] at h
      by_contra bad
      have out : inRange 1 r.quota a[3].toNat = false := by
        rw [← Bool.not_eq_true, inRange_iff]; exact bad
      simp [out] at h
    · rw [chosen] at h
      by_contra bad
      have out : (inRange 1 32 a[4].toNat && decide (r.txQueue.length ≤ a[4].toNat)) = false := by
        rw [← Bool.not_eq_true, Bool.and_eq_true, inRange_iff, decide_eq_true_eq, and_assoc]; exact bad
      simp only [if_true, out, Bool.not_false, Bool.and_self, ite_self, reduceCtorEq] at h

/-- Whether CIRCUIT-AMEND owes a GRANT at once: a new threshold that the lead has reached (R23, R85). -/
theorem Record.grantDue_amendedTo {a : Vector Word 8} (r : Record) (priority : Fin 4) :
    (a[1].getLsbD 1 && (r.amendedTo a priority).phase.carriesData && (r.amendedTo a priority).grantDue) = true ↔
      a[1].getLsbD 1 = true ∧ r.phase.carriesData = true
        ∧ a[3].toNat ≤ ((r.received + wordOf r.quota - wordOf r.rxQueue.length) - r.advertised).toNat := by
  cases chosen : a[1].getLsbD 1 with
  | false => simp
  | true => simp [Record.amendedTo, Record.grantDue, Record.candidate, chosen]

/-- Settles O15. -/
theorem circuitAmendSetsTheSelectedFields : Obligations.CircuitAmendSetsTheSelectedFields := by
  intro s cmd c r h names a selects fits
  have words : inRange 1 15 cmd.args[1].toNat = true ↔ 1 ≤ a[1].toNat ∧ a[1].toNat ≤ 15 :=
    inRange_iff _ _ _
  refine ⟨fun ended => ?_, fun live bad => ?_, fun live good priority selected => ?_⟩
  · change execCircuitAmend s = _
    rw [execCircuitAmend, State.completing_of_completes h, State.forCircuit_of_names names,
      if_pos (by simp [ended])]
    rfl
  · change execCircuitAmend s = _
    rw [execCircuitAmend, State.completing_of_completes h, State.forCircuit_of_names names,
      if_neg (by simp [live])]
    by_cases selection : 1 ≤ a[1].toNat ∧ a[1].toNat ≤ 15
    · have refuses : amended cmd.args r = none := by
        cases e : amended cmd.args r with
        | none => rfl
        | some q => exact absurd ⟨selection, amendable_of_amended e⟩ bad
      rw [if_neg (by simp [words.2 selection]), refuses]
      rfl
    · rw [if_pos (by simpa using fun e => selection (words.1 e))]
      rfl
  · obtain ⟨selection, amendable⟩ := good
    intro r' lead t
    change execCircuitAmend s = _
    rw [execCircuitAmend, State.completing_of_completes h, State.forCircuit_of_names names,
      if_neg (by simp [live]), if_neg (by simp [words.2 selection]), amended_of_amendable amendable selected]
    dsimp only
    rw [State.complete_bare]
    exact congrArg (fun u => Host.Outcome.next ((State.finishClaim s u r.link).settled cmd 0))
      (if_congr (Record.grantDue_amendedTo r priority) rfl rfl)

end Sys2Proof.Machine
end

section
/-! PROOFS. Services (chapter 2): the words of an entry, SERVICE-REGISTER, SERVICE-AMEND, SERVICE-QUERY and
SERVICE-WITHDRAW. -/

namespace Sys2Proof.Machine
set_option Elab.async false

variable {s : State} {cmd : Command} {c : CircuitNo} {r : Record}

/-! ### The words of an entry (R27, R28) -/

theorem toNat_hiByte (w : Word) : (hiByte w).toNat = w.toNat / 256 := by
  rw [hiByte, BitVec.extractLsb'_toNat, Nat.shiftRight_eq_div_pow]
  have := w.isLt
  omega

theorem toNat_loByte (w : Word) : (loByte w).toNat = w.toNat % 256 := by
  simp [loByte]

theorem pack_hiByte_loByte (w : Word) : pack (hiByte w) (loByte w) = w := by
  apply BitVec.eq_of_toNat_eq
  rw [pack, BitVec.toNat_append, toNat_hiByte, toNat_loByte, Nat.shiftLeft_eq, ← Nat.shiftLeft_eq,
    ← Nat.shiftLeft_add_eq_or_of_lt (by omega), Nat.shiftLeft_eq]
  omega

theorem priorityOf_eq {n : Nat} (h : n ≤ 3) : priorityOf n = some ⟨n, by omega⟩ := dif_pos _

theorem priorityOf_eq_none {n : Nat} (h : ¬ n ≤ 3) : priorityOf n = none := dif_neg (by omega)

/-- The mode and the state of an entry as the code of R27 gives them. -/
def modeOf (code : Byte) : AdmissionMode := if code.toNat % 2 = 1 then .hold else .auto

theorem modeCode_modeOf {code : Byte} (h : code.toNat ≤ 3) :
    (match modeOf code with
      | .auto => 0
      | .hold => 1) + (if decide (code.toNat < 2) then 0 else 2) = code := by
  revert code
  decide

/-- The entry that words in range give (R27, R28). -/
theorem Service.ofArgs_of_inRange {a : Vector Word 8} (h : serviceWordsInRange a) :
    ∃ e, Service.ofArgs a = some e ∧ e.number.toNat = a[0].toNat ∧ ∀ n, Service.laidOut { e with active := n } a := by
  obtain ⟨number, mode, mask, limit, quota, threshold, priority, depth⟩ := h
  have code : (hiByte a[1]).toNat ≤ 3 := by rw [toNat_hiByte]; exact mode
  have numberByte : a[0].toNat = (loByte a[0]).toNat := by rw [toNat_loByte]; omega
  unfold Service.ofArgs
  rw [priorityOf_eq priority]
  dsimp only
  rw [if_pos (by simp only [Bool.and_eq_true, inRange_iff, toNat_hiByte, toNat_loByte]; omega)]
  refine ⟨_, rfl, numberByte.symm, fun n => ⟨numberByte, ?_, rfl, rfl, rfl, rfl, rfl, rfl⟩⟩
  have low : ((loByte a[1]).setWidth 4).setWidth 8 = loByte a[1] := by
    have := toNat_loByte a[1]
    bv_omega
  exact (pack_hiByte_loByte a[1]).symm.trans (congrArg₂ pack (modeCode_modeOf code).symm low.symm)

/-- Words out of range give no entry (R28). -/
theorem Service.ofArgs_of_outOfRange {a : Vector Word 8} (h : ¬ serviceWordsInRange a) :
    Service.ofArgs a = none := by
  unfold Service.ofArgs
  by_cases priority : a[5].toNat ≤ 3
  · rw [priorityOf_eq priority]
    refine if_neg fun fits => h ?_
    simp only [Bool.and_eq_true, inRange_iff, toNat_hiByte, toNat_loByte] at fits
    unfold serviceWordsInRange
    omega
  · rw [priorityOf_eq_none priority]

/-! ### The entry with a number -/

theorem loByte_eq_iff {w : Word} (h : w.toNat ≤ 255) (b : Byte) : b = loByte w ↔ b.toNat = w.toNat := by
  rw [← BitVec.toNat_inj, toNat_loByte, Nat.mod_eq_of_lt (by omega)]

/-- The search for the entry that a word names (R25). -/
theorem State.service_loByte {w : Word} (h : w.toNat ≤ 255) :
    s.service (loByte w) = s.services.find? fun e => decide (e.number.toNat = w.toNat) := by
  simp only [State.service, loByte_eq_iff h]

theorem State.service_eq_none {n : Byte} (h : ∀ x ∈ s.services, x.number ≠ n) : s.service n = none := by
  simpa [State.service, List.find?_eq_none] using h

theorem State.service_loByte_eq_none {w : Word} (low : w.toNat ≤ 255)
    (h : ∀ x ∈ s.services, x.number.toNat ≠ w.toNat) : s.service (loByte w) = none :=
  State.service_eq_none fun x hx e => h x hx ((loByte_eq_iff low _).1 e)

/-- The number of an entry that is found. -/
theorem number_of_known {n : Nat} {x : Service}
    (known : s.services.find? (fun e => decide (e.number.toNat = n)) = some x) : x.number.toNat = n := by
  simpa using List.find?_some known

/-! ### SERVICE-REGISTER -/

/-- Settles O16. -/
theorem serviceRegisterAddsAnEntry : Obligations.ServiceRegisterAddsAnEntry := by
  intro s cmd h
  refine ⟨fun bad => ?_, fun good taken => ?_, fun good fresh full => ?_, fun good fresh room => ?_⟩
  · change execServiceRegister s = _
    rw [execServiceRegister, State.completing_of_completes h, Service.ofArgs_of_outOfRange bad]
    rfl
  all_goals
    obtain ⟨e, entry, number, laidOut⟩ := Service.ofArgs_of_inRange good
  · obtain ⟨x, hx, same⟩ := taken
    have found : (s.service e.number).isSome = true := by
      simp only [State.service, List.find?_isSome]
      exact ⟨x, hx, by simp [← BitVec.toNat_inj, same, number]⟩
    change execServiceRegister s = _
    rw [execServiceRegister, State.completing_of_completes h, entry]
    dsimp only
    rw [if_pos found]
    rfl
  all_goals
    have free : s.service e.number = none :=
      State.service_eq_none fun x hx same => fresh x hx (by rw [same, number])
  · change execServiceRegister s = _
    rw [execServiceRegister, State.completing_of_completes h, entry]
    dsimp only
    rw [if_neg (by simp [free]), if_pos (show Config.serviceCapacity ≤ _ from full)]
    rfl
  · refine ⟨{ e with active := s.countFor e.number }, laidOut _, rfl, perm_insertService _ _, ?_⟩
    change execServiceRegister s = _
    rw [execServiceRegister, State.completing_of_completes h, entry]
    dsimp only
    rw [if_neg (by simp [free]), if_neg (show ¬ Config.serviceCapacity ≤ _ from Nat.not_le.2 room)]
    rfl

/-! ### SERVICE-AMEND and SERVICE-QUERY -/

/-- The number check of the commands on one entry (R29 to R31). -/
theorem number_inRange {n : Nat} (h : 1 ≤ n ∧ n ≤ 255) : ¬ (!inRange 1 255 n) = true := by
  simp [inRange_iff, h]

theorem number_outOfRange {n : Nat} (h : n = 0 ∨ 255 < n) : (!inRange 1 255 n) = true := by
  simp [inRange]
  omega

/-- The entry in the common layout (R27, R30). -/
theorem Service.toArgs_eq (x : Service) (v : Vector Word 8) :
    writeWords v x.toArgs = #v[
      wordOf x.number.toNat,
      pack
        ((match x.mode with
          | .auto => 0
          | .hold => 1) + (if x.listening then 0 else 2))
        (x.linkMask.setWidth 8),
      pack (byteOf x.active) (byteOf x.limit),
      wordOf x.quota, wordOf x.threshold, wordOf x.priority.val, wordOf x.depth, x.tag] := by
  have code : byteOf x.modeCode = (match x.mode with
      | .auto => 0
      | .hold => 1) + (if x.listening then 0 else 2) := by
    unfold Service.modeCode
    cases x.mode <;> cases x.listening <;> rfl
  rw [Service.toArgs, writeWords_eight, code]

/-- Settles O17. -/
theorem serviceAmendAndQuery : Obligations.ServiceAmendAndQuery := by
  intro s cmd n known
  refine ⟨fun h => ⟨fun bad => ?_, fun low high absent => ?_, fun x low high found bad => ?_,
    fun x found good => ?_⟩, fun h => ⟨fun bad => ?_, fun low high absent => ?_, fun x low found => ?_⟩⟩
  · change execServiceAmend s = _
    rw [execServiceAmend, State.completing_of_completes h, if_pos (number_outOfRange bad)]
    rfl
  · change execServiceAmend s = _
    rw [execServiceAmend, State.completing_of_completes h, if_neg (number_inRange ⟨low, high⟩),
      State.service_loByte_eq_none high absent]
    rfl
  · change execServiceAmend s = _
    rw [execServiceAmend, State.completing_of_completes h, if_neg (number_inRange ⟨low, high⟩),
      State.service_loByte high, found, Service.ofArgs_of_outOfRange bad]
    rfl
  · obtain ⟨e, entry, number, laidOut⟩ := Service.ofArgs_of_inRange good
    refine ⟨{ e with active := e.active }, laidOut _, ?_⟩
    change execServiceAmend s = _
    rw [execServiceAmend, State.completing_of_completes h, if_neg (number_inRange good.1),
      State.service_loByte good.1.2, found, entry]
    rfl
  · change execServiceQuery s = _
    rw [execServiceQuery, State.completing_of_completes h, if_pos (number_outOfRange bad)]
    rfl
  · change execServiceQuery s = _
    rw [execServiceQuery, State.completing_of_completes h, if_neg (number_inRange ⟨low, high⟩),
      State.service_loByte_eq_none high absent]
    rfl
  · have number : x.number.toNat = n := number_of_known found
    have high : n ≤ 255 := by omega
    change execServiceQuery s = _
    rw [execServiceQuery, State.completing_of_completes h, if_neg (number_inRange ⟨low, high⟩),
      State.service_loByte high, found]
    dsimp only
    rw [State.complete_args, Service.toArgs_eq, number]
    rfl

/-! ### SERVICE-WITHDRAW -/

/-- What a forced withdrawal makes of a record (R32). -/
def Record.withdrawnFrom (r : Record) (number : Byte) : Record :=
  if r.direction = .incoming ∧ r.service = number then
    match r.phase with
    | .offered => r.atEnd .withdrawn none
    | .opened | .draining => Record.atEnd { r with owed := r.owed.put .close true } .withdrawn none
    | _ => r
  else r

/-- The record of the circuit changes, and no other (R32). -/
theorem State.record_withdrawCircuit (s : State) (number : Byte) (c d : CircuitNo) :
    (s.withdrawCircuit number c).record d =
      if d = c then (s.record c).map fun r => r.withdrawnFrom number else s.record d := by
  unfold State.withdrawCircuit
  cases before : s.record c with
  | none => by_cases e : d = c <;> simp [e, before]
  | some r =>
    have same : s.record d = if d = c then some r else s.record d := by
      by_cases e : d = c <;> simp [e, before]
    simp only [Option.map_some, Record.withdrawnFrom]
    split
    · cases phase : r.phase with
      | offered => simp [State.record_endCircuit, State.answer, before]
      | opened | draining =>
        rw [State.record_endCircuit, State.record_owe, if_pos rfl, State.record_owe]
        by_cases e : d = c <;> simp [e, before, phase]
      | _ => exact same
    · exact same

theorem State.generation_withdrawCircuit (s : State) (number : Byte) (c d : CircuitNo) :
    ((s.withdrawCircuit number c).circuit d).generation = (s.circuit d).generation := by
  unfold State.withdrawCircuit
  split
  · rfl
  · split
    · split <;> simp [State.answer]
    · rfl

/-- The other entries of the table under a change of one entry. -/
theorem filter_onService (s : State) (number : Byte) (f : Service → Service)
    (keeps : ∀ e, (f e).number = e.number) :
    (s.onService number f).services.filter (fun e => decide (e.number ≠ number))
      = s.services.filter fun e => decide (e.number ≠ number) := by
  unfold State.onService
  induction s.services with
  | nil => rfl
  | cons e es ih => by_cases same : e.number = number <;> simp_all

/-- An ending tells the service that counts the circuit (R14, R26). -/
theorem State.services_endCircuit (before : s.record c = some r) (cause : EndCause) (detail : Option Byte) :
    (s.endCircuit c cause detail).services = (s.uncount r).services := by
  unfold State.endCircuit
  simp only [before]
  exact State.Rewrites.uncount_services_congr (by simp) rfl rfl

theorem filter_uncount {number : Byte} (own : r.service = number) :
    (s.uncount r).services.filter (fun e => decide (e.number ≠ number))
      = s.services.filter fun e => decide (e.number ≠ number) := by
  unfold State.uncount
  split
  · rfl
  · rw [own]
    exact filter_onService s number _ fun _ => rfl

/-- A forced withdrawal of a circuit leaves the entries of the other services (R26, R32). -/
theorem State.filter_withdrawCircuit (s : State) (number : Byte) (c : CircuitNo) :
    (s.withdrawCircuit number c).services.filter (fun e => decide (e.number ≠ number))
      = s.services.filter fun e => decide (e.number ≠ number) := by
  unfold State.withdrawCircuit
  split
  · rfl
  · rename_i r before
    have closing (own : r.service = number) :
        ((s.owe c .close).endCircuit c .withdrawn none).services.filter (fun e => decide (e.number ≠ number))
          = s.services.filter fun e => decide (e.number ≠ number) := by
      rw [State.services_endCircuit (State.Rewrites.owe before .close).after]
      exact (filter_uncount own).trans (by simp)
    split
    · rename_i own
      split
      · rw [State.services_endCircuit (r := r) (by simpa [State.answer] using before)]
        exact (filter_uncount own.2).trans (by simp [State.answer])
      · exact closing own.2
      · exact closing own.2
      · rfl
    · rfl

/-- The circuits of a service as the statements count them (R32). -/
theorem State.serviceCircuits_eq {number : Byte} {n : Nat} (same : ∀ b : Byte, b = number ↔ b.toNat = n)
    {p q : Phase → Bool} (h : ∀ x, p x = q x) :
    s.serviceCircuits number p = allCircuits.countP fun c => (s.record c).any fun r =>
      r.direction = .incoming && r.service.toNat = n && q r.phase := by
  rw [State.serviceCircuits, ← List.countP_eq_length_filter]
  congr 1
  funext c
  cases s.record c with
  | none => rfl
  | some r => simp [same, h]

/-- A known entry, and the checks of the command passed (R31, R32). -/
theorem exec_serviceWithdraw {x : Service} (h : s.completes .serviceWithdraw cmd) (low : 1 ≤ cmd.args[0].toNat)
    (arg : cmd.args[1].toNat ≤ 1)
    (found : s.services.find? (fun e => decide (e.number.toNat = cmd.args[0].toNat)) = some x) :
    exec .serviceWithdraw s = .next
      (let p :=
        if cmd.args[1] = 1 then s.forceWithdraw x.number
        else if 0 < x.active then (({ result := .inUse, args := [(1, wordOf x.active)] }, s) : Reply × State)
        else ({ result := .ok, args := [(1, 0), (2, 0), (3, 0)] }, s.removeService x.number)
      p.2.complete cmd p.1) := by
  have number := number_of_known found
  have high : cmd.args[0].toNat ≤ 255 := by omega
  have check : ¬ (!(inRange 1 255 cmd.args[0].toNat && inRange 0 1 cmd.args[1].toNat)) = true := by
    simp [inRange]
    omega
  change execServiceWithdraw s = _
  rw [execServiceWithdraw, State.completing_of_completes h, if_neg check, State.service_loByte high, found]

/-- The end of a forced withdrawal: its reply and the claim's own end (R32). -/
theorem State.complete_forceWithdraw (s : State) (cmd : Command) (number : Byte) :
    (s.forceWithdraw number).2.complete cmd (s.forceWithdraw number).1 =
      { (State.afterReturns s
          ((s.forCircuits fun c t => t.withdrawCircuit number c).removeService number)).boundaries.settled cmd 0 with
        args := ((s.args.set 1 (wordOf (s.serviceCircuits number fun p => decide (p = .offered)))).set 2
          (wordOf (s.serviceCircuits number Phase.sendsData))).set 3
          (wordOf (s.serviceCircuits number Phase.isClosing)) } := by
  have args : (s.forCircuits fun c t => t.withdrawCircuit number c).args = s.args := by
    refine State.forCircuits_keeps (fun t => t.args) _ (fun c t => ?_) s
    unfold State.withdrawCircuit
    split
    · rfl
    · split
      · split <;> simp [State.answer]
      · rfl
  have ends : (State.afterReturns s
      ((s.forCircuits fun c t => t.withdrawCircuit number c).removeService number)).boundaries.args = s.args := by
    simpa [State.removeService] using args
  simp only [State.forceWithdraw]
  generalize (State.afterReturns s
    ((s.forCircuits fun c t => t.withdrawCircuit number c).removeService number)).boundaries = v at ends ⊢
  rw [State.complete_words ends]
  rfl

@[simp] theorem State.circuit_removeService (s : State) (number : Byte) (c : CircuitNo) :
    (s.removeService number).circuit c = s.circuit c := rfl

/-- The records after a forced withdrawal (R32). -/
theorem State.record_withdrawn (s : State) (number : Byte) (c : CircuitNo) :
    ((s.forCircuits fun c t => t.withdrawCircuit number c).removeService number).record c
      = (s.record c).map fun r => r.withdrawnFrom number := by
  rw [State.record, State.circuit_removeService]
  exact State.forCircuits_pointwise (fun c t => t.record c) (fun _ q => q.map fun r => r.withdrawnFrom number) _
    (fun c t d => t.record_withdrawCircuit number c d) s c

theorem State.generation_withdrawn (s : State) (number : Byte) (c : CircuitNo) :
    (((s.forCircuits fun c t => t.withdrawCircuit number c).removeService number).circuit c).generation
      = (s.circuit c).generation := by
  rw [State.circuit_removeService]
  exact State.forCircuits_keeps (fun t => (t.circuit c).generation) _
    (fun d t => t.generation_withdrawCircuit number d c) s

/-- The table after a forced withdrawal: the entries of the other services (R32). -/
theorem State.mem_services_withdrawn (s : State) (number : Byte) (e : Service) :
    e ∈ ((s.forCircuits fun c t => t.withdrawCircuit number c).removeService number).services
      ↔ e ∈ s.services ∧ e.number ≠ number := by
  have kept := State.forCircuits_keeps (fun t => t.services.filter fun e => decide (e.number ≠ number))
    (fun c t => t.withdrawCircuit number c) (fun c t => t.filter_withdrawCircuit number c) s
  unfold State.removeService
  rw [kept, List.mem_filter, decide_eq_true_eq]

/-- Settles O18: the loop of a forced withdrawal is read off circuit by circuit. -/
theorem serviceWithdrawGentleAndForce : Obligations.ServiceWithdrawGentleAndForce := by
  intro s cmd h n known counts
  have gently (gentle : cmd.args[1] = 0) : cmd.args[1].toNat ≤ 1 ∧ cmd.args[1] ≠ 1 := by
    rw [gentle]; decide
  refine ⟨fun bad => ?_, fun low high arg absent => ?_, fun x low found gentle active => ?_,
    fun x low found gentle idle => ?_, fun x low found force => ?_⟩
  · have check : (!(inRange 1 255 n && inRange 0 1 cmd.args[1].toNat)) = true := by
      simp [inRange]
      omega
    change execServiceWithdraw s = _
    rw [execServiceWithdraw, State.completing_of_completes h, if_pos check]
    rfl
  · have check : ¬ (!(inRange 1 255 n && inRange 0 1 cmd.args[1].toNat)) = true := by
      simp [inRange]
      omega
    change execServiceWithdraw s = _
    rw [execServiceWithdraw, State.completing_of_completes h, if_neg check, State.service_loByte_eq_none high absent]
    rfl
  · rw [exec_serviceWithdraw h low (gently gentle).1 found, if_neg (gently gentle).2, if_pos active]
    rfl
  all_goals
    have same (b : Byte) : b = x.number ↔ b.toNat = n := by
      rw [← number_of_known found, BitVec.toNat_inj]
  · rw [exec_serviceWithdraw h low (gently gentle).1 found, if_neg (gently gentle).2, if_neg (by simp [idle])]
    have remains : (s.removeService x.number).services = s.services.filter fun e => decide (e.number.toNat ≠ n) := by
      simp only [State.removeService, ne_eq, same]
    rw [← remains]
    rfl
  · intro u
    have records (c : CircuitNo) : u.record c = (s.record c).map fun r => r.withdrawnFrom x.number :=
      s.record_withdrawn x.number c
    refine ⟨?_, fun w c r p before incoming own peer offered => ?_, fun w c r before incoming own sends => ?_,
      fun e => ?_, fun c => ?_, fun c free => ?_, fun c r before => ?_⟩
    · rw [exec_serviceWithdraw h low (by rw [force]; decide) found, if_pos force]
      dsimp only
      rw [State.complete_forceWithdraw]
      have sending (p : Phase) : p.sendsData = decide (p = .opened ∨ p = .draining) := by cases p <;> rfl
      rw [State.serviceCircuits_eq same fun _ => rfl, State.serviceCircuits_eq same sending,
        State.serviceCircuits_eq same fun _ => rfl]
    · unfold State.withdrawCircuit
      simp only [before]
      rw [if_pos ⟨incoming, own⟩]
      simp only [offered, peer]
      rfl
    · unfold State.withdrawCircuit
      simp only [before]
      rw [if_pos ⟨incoming, own⟩]
      cases phase : r.phase with
      | opened | draining => rfl
      | _ => simp [phase, Phase.sendsData] at sends
    · exact (s.mem_services_withdrawn x.number e).trans (and_congr Iff.rfl (not_congr (same _)))
    · exact s.generation_withdrawn x.number c
    · rw [records, free]
      rfl
    · rw [records, before]
      exact congrArg some (if_congr (and_congr Iff.rfl (same _)) rfl rfl)

end Sys2Proof.Machine
end

section
/-! PROOFS. Frames on an UP link (chapters 2 to 4): where a frame is taken, which record it matches, and the
handling of OPEN, ACCEPT, REFUSE, CLOSE, CLOSED, DATA, GRANT and ASK. -/

namespace Sys2Proof.Machine
set_option Elab.async false

variable {s t : State} {l : LinkNo} {c : CircuitNo} {r : Record} {hdr : Header} {f : Frame}

/-! ### Where a frame is taken -/

/-- Where a link hears a frame, its Link Controller takes it whole (R118, R149). -/
theorem State.arrive_of_hears {phase : LinkState} (runs : phase ≠ .stopped) (h : s.hears l phase f = some t) :
    s.held = false ∧ (t.link l).state = phase ∧ s.arrive l f = t.handleFrame l f := by
  unfold State.hears at h
  split at h
  · cases h
  · rename_i gate
    simp only [not_or, Bool.not_eq_true, not_not] at gate
    obtain ⟨running, state⟩ := gate
    have moves : ¬ (s.link l).state = .stopped := state ▸ runs
    unfold State.arrive
    split at h
    · rename_i unlooped
      cases h
      exact ⟨running, state, by rw [if_neg (by simp [unlooped]), if_neg moves]⟩
    · rename_i looped
      split at h
      · rename_i next
        cases h
        refine ⟨running, by rw [State.link_onLink_self]; exact state, ?_⟩
        rw [if_pos (by simpa using looped), if_pos (List.isPrefixOf_iff_prefix.2 next)]
        exact if_neg moves
      · cases h

/-- What is heard has changed the internal path alone (R149). -/
theorem State.cellsHeld_of_hears {phase : LinkState} (h : s.hears l phase f = some t) : t.cellsHeld = s.cellsHeld := by
  unfold State.hears at h
  split at h
  · cases h
  · split at h
    · cases h; rfl
    · split at h
      · cases h; rfl
      · cases h

/-- The controller of an UP link takes a frame after its assembly has ended (R132). -/
theorem State.handleFrame_up (up : (t.link l).state = .up) :
    t.handleFrame l f = State.finishClaim t ((t.assembled l).dispatch l f) l := by
  have state : ((t.endAssembly l .gather).link l).state = .up := by
    rw [State.endAssembly, State.link_onLink_self]
    exact up
  unfold State.handleFrame State.controller
  simp only [state]
  rfl

/-- The end of the assembly and the restart of the dead timer, in one (R118, R125). -/
theorem State.restartDead_assembled : (t.assembled l).restartDead l = t.heard l := by
  rw [State.assembled, State.restartDead, State.onLink_onLink]
  rfl

/-- The row of a valid frame is its arrival. -/
theorem exec_row (running : s.held = false) (fits : f.fits) : exec (f.row l) s = .next (s.arrive l f) := by
  cases f with
  | data hdr sequence payload =>
    obtain ⟨least, most⟩ := fits
    have payloads : ¬ payload.isEmpty = true := by
      rw [List.isEmpty_iff_length_eq_zero]
      omega
    change execDataFrame l hdr sequence payload s = _
    rw [execDataFrame, State.unlessHeld_of_running running, if_neg payloads, if_neg (by omega)]
  | _ => exact State.unlessHeld_of_running running (State.arrive · l _)

/-- The claim of a frame on an UP link (R132). -/
theorem exec_row_up (fits : f.fits) (h : s.hears l .up f = some t) :
    exec (f.row l) s = .next (State.finishClaim t ((t.assembled l).dispatch l f) l) := by
  obtain ⟨running, up, taken⟩ := State.arrive_of_hears (by simp) h
  rw [exec_row running fits, taken, State.handleFrame_up up]

@[simp] theorem State.record_heard (t : State) (l : LinkNo) (c : CircuitNo) : (t.heard l).record c = t.record c := rfl

@[simp] theorem State.settings_heard (t : State) (l : LinkNo) : (t.heard l).settings = t.settings := rfl

@[simp] theorem State.matched_heard (t : State) (l : LinkNo) (hdr : Header) :
    (t.heard l).matched l hdr = t.matched l hdr := rfl

/-! ### Matching and stray frames -/

theorem circuitOf_eq_some {n : Nat} : circuitOf n = some c ↔ n = c.val := by
  unfold circuitOf
  split
  · simp [Fin.ext_iff]
  · simp only [reduceCtorEq, false_iff]
    omega

/-- Settles O26. -/
theorem framesMatchByAddressGenerationAndPeer : Obligations.FramesMatchByAddressGenerationAndPeer := by
  refine fun s l hdr => ⟨fun c r => ⟨fun h => ?_, fun ⟨number, before, on, generation, peer⟩ => ?_⟩,
    fun high => ⟨if_pos high, if_pos high⟩, fun low => ⟨if_neg (by omega), if_neg (by omega)⟩⟩
  · obtain ⟨before, on, peer⟩ := State.matched_spec h
    have address : hdr.dst.toNat = c.val ∧ (s.circuit c).generation = hdr.dstGen := by
      unfold State.matched at h
      split at h
      · cases h
      · rename_i d number
        split at h
        · cases h
        · split at h
          · rename_i fits
            cases h
            exact ⟨circuitOf_eq_some.1 number, fits.2.1⟩
          · cases h
    refine ⟨address.1, before, on, address.2, fun p recorded => ?_⟩
    rcases peer with absent | present
    · rw [absent] at recorded; cases recorded
    · rw [present] at recorded; cases recorded; exact ⟨rfl, rfl⟩
  · have fits : r.peer = none ∨ r.peer = some { circuit := hdr.src, generation := hdr.srcGen } := by
      cases recorded : r.peer with
      | none => exact .inl rfl
      | some p =>
        obtain ⟨circuit, gen⟩ := peer p recorded
        exact .inr (by rw [← circuit, ← gen])
    simp [State.matched, circuitOf_eq_some.2 number, before, on, generation, fits]

/-! ### ACCEPT, REFUSE, CLOSE and CLOSED -/

/-- Settles O27. -/
theorem acceptFrameByTheMatchedRecord : Obligations.AcceptFrameByTheMatchedRecord := by
  intro s t l hdr quota h u stray
  have row := exec_row_up (f := .accept hdr quota) trivial h
  simp only [Frame.row, State.dispatch, State.restartDead_assembled] at row
  rw [row]
  refine ⟨fun absent => ?_, fun c r matched => ⟨fun calling high => ?_, fun calling low => ?_,
    fun carries outgoing => ?_, fun carries incoming => ?_, fun other => ?_⟩⟩
  · simp only [State.takeAccept, State.matched_heard, absent]; rfl
  · simp only [State.takeAccept, State.matched_heard, matched, calling, high, if_true]; rfl
  · simp only [State.takeAccept, State.matched_heard, matched, calling, Nat.not_lt.2 low, if_false]; rfl
  · rcases Phase.carriesData_cases carries with phase | phase | ⟨reason, phase⟩ <;>
      (simp only [State.takeAccept, State.matched_heard, matched, phase, outgoing, if_true]; rfl)
  · rcases Phase.carriesData_cases carries with phase | phase | ⟨reason, phase⟩ <;>
      (simp only [State.takeAccept, State.matched_heard, matched, phase, incoming, reduceCtorEq, if_false]; rfl)
  · rcases other with phase | ended
    · simp only [State.takeAccept, State.matched_heard, matched, phase]; rfl
    · obtain ⟨cause, detail, discarded, phase⟩ := Phase.ended_of_dead ended
      simp only [State.takeAccept, State.matched_heard, matched, phase]; rfl

/-- Settles O28. -/
theorem refuseCloseAndClosedFrames : Obligations.RefuseCloseAndClosedFrames := by
  intro s t l hdr reason u done causeOf
  have causes (x : CloseReason) : x.endCause = causeOf x := by cases x <;> rfl
  refine ⟨fun h => ?_, fun h => ?_, fun h => ?_⟩
  · have row := exec_row_up (f := .refuse hdr reason) trivial h
    simp only [Frame.row, State.dispatch, State.restartDead_assembled, State.takeRefuse, State.matched_heard] at row
    refine ⟨fun other => ?_, fun c r matched calling => ?_⟩
    · rw [row]
      cases matched : t.matched l hdr with
      | none => rfl
      | some found => simp only [other found.1 found.2 matched, if_false]; rfl
    · rw [row]
      simp only [matched, calling, if_true]; rfl
  · have row := exec_row_up (f := .closed hdr) trivial h
    simp only [Frame.row, State.dispatch, State.restartDead_assembled, State.takeClosed, State.matched_heard] at row
    refine ⟨fun other => ?_, fun c r x matched closing => ?_⟩
    · rw [row]
      cases matched : t.matched l hdr with
      | none => rfl
      | some found =>
        cases phase : found.2.phase with
        | closing x => exact absurd phase (other found.1 found.2 x matched)
        | _ => simp only [phase]; rfl
    · rw [row]
      simp only [matched, closing, causes]; rfl
  · have row := exec_row_up (f := .close hdr reason) trivial h
    simp only [Frame.row, State.dispatch, State.restartDead_assembled, State.takeClose, State.matched_heard] at row
    refine ⟨fun absent => ?_, fun c r matched => ⟨fun calling high => ?_, fun calling low => ?_, fun offered => ?_,
      fun sends => ?_, fun x closing => ?_, fun ended recorded => ?_, fun ended unrecorded => ?_⟩⟩
    · rw [row]; simp only [absent]; rfl
    · rw [row]; simp only [matched, calling, high, if_true]; rfl
    · rw [row]; simp only [matched, calling, Nat.not_lt.2 low, if_false]; rfl
    · rw [row]; simp only [matched, offered]; rfl
    · rw [row]
      cases phase : r.phase with
      | opened | draining => simp only [matched, phase]; rfl
      | _ => simp [phase, Phase.sendsData] at sends
    · rw [row]; simp only [matched, closing, causes]; rfl
    · obtain ⟨cause, detail, discarded, phase⟩ := Phase.ended_of_dead ended
      rw [row]; simp only [matched, phase, Option.isSome_iff_ne_none.2 recorded, if_true]; rfl
    · obtain ⟨cause, detail, discarded, phase⟩ := Phase.ended_of_dead ended
      rw [row]; simp only [matched, phase, unrecorded, Option.isSome_none, Bool.false_eq_true, if_false]; rfl

/-! ### Credit frames -/

/-- A DATA, GRANT or ASK frame by the record it matches (R51, R69). -/
theorem State.takeCredit_cases (u : State) (l : LinkNo) (hdr : Header) (handle : CircuitNo → State → State) :
    (u.matched l hdr = none → u.takeCredit l hdr handle = u.answerStray l hdr)
    ∧ ∀ c r, u.matched l hdr = some (c, r) →
      ((r.phase = .offered ∨ r.phase.live = false) → u.takeCredit l hdr handle = u.answerStray l hdr)
      ∧ (r.phase = .calling → 63 < hdr.src.toNat → u.takeCredit l hdr handle = u)
      ∧ (r.phase = .calling → hdr.src.toNat ≤ 63 → u.takeCredit l hdr handle
          = handle c (u.openCall c { circuit := hdr.src, generation := hdr.srcGen } 0))
      ∧ (r.phase.carriesData = true → u.takeCredit l hdr handle = handle c u) := by
  unfold State.takeCredit
  refine ⟨fun absent => by simp only [absent], fun c r matched => ⟨fun other => ?_, fun calling high => ?_,
    fun calling low => ?_, fun carries => ?_⟩⟩
  · rcases other with phase | ended
    · simp only [matched, phase]
    · obtain ⟨cause, detail, discarded, phase⟩ := Phase.ended_of_dead ended
      simp only [matched, phase]
  · simp only [matched, calling, high, if_true]
  · simp only [matched, calling, Nat.not_lt.2 low, if_false]
  · rcases Phase.carriesData_cases carries with phase | phase | ⟨reason, phase⟩ <;> simp only [matched, phase]

/-- The steps of R80 on a record. -/
theorem State.dataOn_eq {u : State} (before : u.record c = some r) (sequence : Byte) (payload : List Byte) :
    u.dataOn c sequence payload =
      if r.phase = .closing .loss ∨ r.phase = .closing .violation then u
      else if r.received = r.advertised then u.forceClose c .violation
      else if sequence ≠ r.expected then u.forceClose c .loss
      else u.acceptData c r sequence payload := by
  simp only [State.dataOn, before]

/-- Settles O30. -/
theorem dataFrameIsCheckedThenAccepted : Obligations.DataFrameIsCheckedThenAccepted := by
  intro s t l hdr sequence payload least most h u done answer
  have row : answer = done (u.takeData l hdr sequence payload) := by
    have row := exec_row_up (f := .data hdr sequence payload) ⟨least, most⟩ h
    rwa [State.dispatch, State.restartDead_assembled] at row
  have cells : u.cellsHeld = s.cellsHeld := show t.cellsHeld = s.cellsHeld from State.cellsHeld_of_hears h
  obtain ⟨stray, matches_⟩ := State.takeCredit_cases u l hdr fun c t => t.dataOn c sequence payload
  refine ⟨fun absent => row.trans (congrArg done (stray absent)), fun c r matched => ?_⟩
  obtain ⟨other, high, low, carries⟩ := matches_ c r matched
  have before : u.record c = some r := (State.matched_spec matched).1
  refine ⟨fun e => row.trans (congrArg done (other e)), fun e g => row.trans (congrArg done (high e g)),
    fun e g => row.trans (congrArg done (low e g)), fun dropped => ?_, fun taken => ?_⟩
  · have data : r.phase.carriesData = true := by rcases dropped with e | e <;> simp [e, Phase.carriesData]
    rw [row, State.takeData, carries data, State.dataOn_eq before, if_pos dropped]
  · have data : r.phase.carriesData = true := by
      rcases taken with sends | e
      · cases phase : r.phase <;> simp_all [Phase.sendsData, Phase.carriesData]
      · simp [e, Phase.carriesData]
    have kept : ¬ (r.phase = .closing .loss ∨ r.phase = .closing .violation) := by
      rintro (e | e) <;> simp [e, Phase.sendsData] at taken
    refine ⟨fun used => ?_, fun credit gap => ?_, fun credit inOrder => ?_⟩
    · rw [row, State.takeData, carries data, State.dataOn_eq before, if_neg kept, if_pos used]
    · rw [row, State.takeData, carries data, State.dataOn_eq before, if_neg kept, if_neg credit, if_pos gap]
    · rw [row, State.takeData, carries data, State.dataOn_eq before, if_neg kept, if_neg credit,
        if_neg (not_not.2 inOrder)]
      intro v w
      have queued : u.acceptData c r sequence payload =
          if r.rxQueue = [] then State.postCircuit w c .data else w := by
        simp only [State.acceptData, List.isEmpty_iff, State.setRecord_frame, cells]
        rfl
      rw [queued]

/-- The forward-only rule, with the ask timer (R78, R88, R89). -/
theorem Record.offerLimit_forward {n : Nat} {limit : Word} (least : 1 ≤ (limit - r.creditLimit).toNat)
    (most : (limit - r.creditLimit).toNat ≤ 32767) :
    r.offerLimit n limit =
      { r with
        creditLimit := limit
        askTimer := if r.phase.sendsData = true ∧ r.txQueue ≠ [] ∧ limit = r.sent then some n else none } := by
  have moves : forward (limit - r.creditLimit) = true := (inRange_iff _ _ _).2 ⟨least, most⟩
  have same (w v : Word) : w - v = 0#16 ↔ w = v := sub_eq_zero
  have blocked : Record.blocked { r with creditLimit := limit } = true ↔
      r.phase.sendsData = true ∧ r.txQueue ≠ [] ∧ limit = r.sent := by
    simp [Record.blocked, Record.credit, and_assoc, same]
  have fresh (now : limit = r.sent) : r.blocked = false := by
    have other : r.creditLimit ≠ r.sent := fun e => by
      rw [now, e, sub_self] at least
      exact absurd least (by decide)
    simp [Record.blocked, Record.credit, same, other]
  rw [Record.offerLimit, if_pos moves, Record.settleAsk]
  congr 1
  by_cases stops : r.phase.sendsData = true ∧ r.txQueue ≠ [] ∧ limit = r.sent
  · rw [if_pos (blocked.2 stops), if_pos stops, fresh stops.2.2, if_neg Bool.false_ne_true]
  · rw [if_neg (fun e => stops (blocked.1 e)), if_neg stops]

/-- Settles O31. -/
theorem grantAndAskFrames : Obligations.GrantAndAskFrames := by
  intro s t l hdr limit u done opened
  refine ⟨fun h => ?_, fun h => ?_, fun r => ⟨Record.offerLimit_forward, fun other => ?_⟩⟩
  · have row : exec (.grantFrame l hdr limit) s = done (u.takeGrant l hdr limit) := by
      have row := exec_row_up (f := .grant hdr limit) trivial h
      rwa [State.dispatch, State.restartDead_assembled] at row
    have grants {v : State} {c : CircuitNo} {q : Record} (before : v.record c = some q) :
        v.grantOn c limit = v.setRecord c (some (q.offerLimit v.settings.askMs limit)) := by
      simp only [State.grantOn, before]
    obtain ⟨stray, matches_⟩ := State.takeCredit_cases u l hdr fun c t => t.grantOn c limit
    refine ⟨fun absent => row.trans (congrArg done (stray absent)), fun c r matched => ?_⟩
    obtain ⟨other, high, low, carries⟩ := matches_ c r matched
    refine ⟨fun e => row.trans (congrArg done (other e)), fun e g => row.trans (congrArg done (high e g)),
      fun e g q before => ?_, fun e => ?_⟩
    · have asks : (opened c).settings = t.settings := by simp [opened, u]
      rw [row, State.takeGrant, low e g, grants before, asks]
    · rw [row, State.takeGrant, carries e, grants (v := u) (State.matched_spec matched).1]
      rfl
  · have row : exec (.askFrame l hdr) s = done (u.takeAsk l hdr) := by
      have row := exec_row_up (f := .ask hdr) trivial h
      rwa [State.dispatch, State.restartDead_assembled] at row
    obtain ⟨stray, matches_⟩ := State.takeCredit_cases u l hdr fun c t => t.owe c .grant
    refine ⟨fun absent => row.trans (congrArg done (stray absent)), fun c r matched => ?_⟩
    obtain ⟨other, high, low, carries⟩ := matches_ c r matched
    exact ⟨fun e => row.trans (congrArg done (other e)), fun e g => row.trans (congrArg done (high e g)),
      fun e g => row.trans (congrArg done (low e g)), fun e => row.trans (congrArg done (carries e))⟩
  · exact Record.offerLimit_ignored (Bool.eq_false_iff.2 fun moves => other ((inRange_iff _ _ _).1 moves))

/-! ### OPEN frames (R34 to R40) -/

theorem Record.holdsPeer_iff {p : Byte} :
    r.holdsPeer l p = true ↔ r.link = l ∧ r.phase.counted = true ∧ ∃ q ∈ r.peer, q.circuit = p := by
  unfold Record.holdsPeer
  cases r.peer <;> simp [and_assoc]

/-- The circuit that the search of R34 finds. -/
theorem State.findByPeer_eq_some {p : Byte}
    (found : ∃ r ∈ s.record c, r.link = l ∧ r.phase.counted = true ∧ ∃ q ∈ r.peer, q.circuit = p)
    (lowest : ∀ d, d < c → ¬ ∃ r ∈ s.record d, r.link = l ∧ r.phase.counted = true ∧ ∃ q ∈ r.peer, q.circuit = p) :
    s.findByPeer l p = some c := by
  refine allCircuits_find?_eq_some ?_ fun d below => ?_
  · obtain ⟨r, before, holds⟩ := found
    rw [Option.mem_def] at before
    simp only [before, Record.holdsPeer_iff.2 holds]
  · cases before : s.record d with
    | none => rfl
    | some q =>
      exact Bool.eq_false_iff.2 fun holds => lowest d below ⟨q, before, Record.holdsPeer_iff.1 holds⟩

theorem State.findByPeer_eq_none {p : Byte}
    (nobody : ∀ c, ¬ ∃ r ∈ s.record c, r.link = l ∧ r.phase.counted = true ∧ ∃ q ∈ r.peer, q.circuit = p) :
    s.findByPeer l p = none := by
  refine List.find?_eq_none.2 fun c _ => ?_
  cases before : s.record c with
  | none => simp
  | some q => exact fun holds => nobody c ⟨q, before, Record.holdsPeer_iff.1 holds⟩

/-- Settles O20. -/
theorem openFrameIsSearchedByItsSource : Obligations.OpenFrameIsSearchedByItsSource := by
  intro s t l hdr service quota h u holds
  have row : exec (.openFrame l hdr service quota) s
      = .next (State.finishClaim t (u.takeOpen l hdr service quota) l) := by
    have row := exec_row_up (f := .openRequest hdr service quota) trivial h
    rwa [State.dispatch, State.restartDead_assembled] at row
  refine ⟨fun high => ?_, fun low nobody => ?_, fun c r p low found lowest before peer => ?_⟩
  · rw [row, State.takeOpen, if_pos high]
  · rw [row, State.takeOpen, if_neg (Nat.not_lt.2 low), State.findByPeer_eq_none (s := u) nobody]
  · have search : u.findByPeer l hdr.src = some c := State.findByPeer_eq_some found lowest
    have own : u.record c = some r := before
    have recorded : (u.record c).bind Record.peer = some p := by rw [own, Option.bind_some, peer]
    have taken : u.takeOpen l hdr service quota =
        if p.generation = hdr.srcGen then u.repeatOpen c
        else (u.supersede c).requestOpen l hdr service quota := by
      simp only [State.takeOpen, Nat.not_lt.2 low, if_false, search, recorded]
    have repeats : u.repeatOpen c =
        if r.direction = .incoming ∧ r.phase = .opened then u.owe c .accept else u := by
      simp only [State.repeatOpen, own]
    refine ⟨fun same incoming opened => ?_, fun same other => ?_, fun fresh => ?_⟩
    · rw [row, taken, if_pos same, repeats, if_pos ⟨incoming, opened⟩]
    · have kept : ¬ (r.direction = .incoming ∧ r.phase = .opened) := by
        rintro ⟨incoming, opened⟩
        simp [incoming, opened] at other
      rw [row, taken, if_pos same, repeats, if_neg kept]
    · rw [row, taken, if_neg fresh]
      rfl

/-- The lowest FREE record (R17). -/
theorem State.lowestFree_eq_some (free : s.record c = none) (lowest : ∀ d, d < c → s.record d ≠ none) :
    s.lowestFree = some c := by
  refine allCircuits_find?_eq_some (by simp [free]) fun d below => ?_
  simpa [← Option.ne_none_iff_isSome, Option.isNone_eq_false_iff] using lowest d below

theorem State.lowestFree_eq_none (full : ∀ c, s.record c ≠ none) : s.lowestFree = none := by
  refine List.find?_eq_none.2 fun c _ => ?_
  simpa using full c

/-- Where a record is FREE, one is the lowest. -/
theorem State.exists_lowestFree (h : ∃ c, s.record c = none) : ∃ c, s.lowestFree = some c := by
  cases found : s.lowestFree with
  | some c => exact ⟨c, rfl⟩
  | none =>
    obtain ⟨c, free⟩ := h
    have := List.find?_eq_none.1 found c (List.mem_finRange c)
    simp [free] at this

theorem State.hasRoom_iff (s : State) (quota : Nat) : s.hasRoom quota = true ↔ s.reservationTotal + quota ≤ 512 := by
  exact decide_eq_true_iff

/-- Settles O19: the six checks, and then the allocation. -/
theorem requestsAreJudgedBySixChecks : Obligations.RequestsAreJudgedBySixChecks := by
  intro s l hdr service quota refused
  have refuses {reason : Byte} (judged : s.judgeOpen l service = .refused reason) :
      s.requestOpen l hdr service quota = refused reason := by
    simp only [State.requestOpen, judged]
    rfl
  refine ⟨fun absent => refuses ?_, fun e known => ?_⟩
  · rw [State.judgeOpen, State.service_eq_none absent]
    rfl
  have entry : s.service service = some e := known
  refine ⟨fun mask => refuses ?_, fun mask closed => refuses ?_, fun mask listens full => refuses ?_,
    fun mask listens under full => refuses ?_, fun mask listens under free room => refuses ?_,
    fun mask listens under c free lowest room => ?_⟩
  · simp only [State.judgeOpen, entry, inMask, mask, Bool.not_false, if_true]
    rfl
  · simp only [State.judgeOpen, entry, inMask, mask, closed, Bool.not_false, Bool.not_true, Bool.false_eq_true, if_false,
      if_true]
    rfl
  · simp only [State.judgeOpen, entry, inMask, mask, listens, full, Bool.not_true, Bool.false_eq_true, if_false,
      if_true]
    rfl
  · simp only [State.judgeOpen, entry, inMask, mask, listens, Nat.not_le.2 under, Bool.not_true, Bool.false_eq_true,
      if_false, State.lowestFree_eq_none full]
    rfl
  · obtain ⟨c, lowest⟩ := State.exists_lowestFree free
    have noRoom : s.hasRoom e.quota = false := Bool.eq_false_iff.2 fun has => by
      rw [State.hasRoom_iff] at has
      omega
    simp only [State.judgeOpen, entry, inMask, mask, listens, Nat.not_le.2 under, Bool.not_true, Bool.false_eq_true,
      if_false, lowest, noRoom]
    rfl
  · have judged : s.judgeOpen l service = .admitted e c := by
      simp only [State.judgeOpen, entry, inMask, mask, listens, Nat.not_le.2 under, Bool.not_true, Bool.false_eq_true,
        if_false, State.lowestFree_eq_some free lowest, (State.hasRoom_iff s e.quota).2 room, if_true]
    have taken : s.requestOpen l hdr service quota = s.acceptOpen l hdr quota e c := by
      simp only [State.requestOpen, judged]
    rw [taken]
    clear known entry judged taken mask listens under room
    obtain ⟨number, linkMask, mode, listening, limit, active, quota', threshold, priority, depth, tag⟩ := e
    cases mode <;> rfl

/-! ### CIRCUIT-CALL -/

/-- The ranges of the words of CIRCUIT-CALL (R48). -/
def callWordsInRange (a : Vector Word 8) : Prop :=
  a[0].toNat ≤ 3 ∧ (1 ≤ a[1].toNat ∧ a[1].toNat ≤ 255) ∧ (1 ≤ a[2].toNat ∧ a[2].toNat ≤ 64)
    ∧ (1 ≤ a[3].toNat ∧ a[3].toNat ≤ a[2].toNat) ∧ a[4].toNat ≤ 3
    ∧ (1 ≤ a[5].toNat ∧ a[5].toNat ≤ 32)

theorem linkOf_eq_some {n : Nat} : linkOf n = some l ↔ n = l.val := by
  unfold linkOf
  split
  · simp [Fin.ext_iff]
  · simp only [reduceCtorEq, false_iff]
    omega

/-- What the words of CIRCUIT-CALL ask for (R48). -/
theorem CallArgs.ofArgs_of_inRange {a : Vector Word 8} {priority : Fin 4} (h : callWordsInRange a)
    (link : a[0].toNat = l.val) (class_ : a[4].toNat = priority.val) :
    CallArgs.ofArgs a = some
      { link := l, service := loByte a[1], quota := a[2].toNat, threshold := a[3].toNat, priority := priority
        depth := a[5].toNat, tag := a[6] } := by
  obtain ⟨-, service, quota, threshold, -, depth⟩ := h
  have priorities : priorityOf a[4].toNat = some priority := by
    rw [class_, priorityOf, dif_pos priority.isLt]
  simp [CallArgs.ofArgs, linkOf_eq_some.2 link, priorities, inRange_iff, service, quota, threshold, depth]

theorem CallArgs.ofArgs_of_outOfRange {a : Vector Word 8} (h : ¬ callWordsInRange a) :
    CallArgs.ofArgs a = none := by
  cases asked : CallArgs.ofArgs a with
  | none => rfl
  | some q =>
    refine absurd ?_ h
    unfold CallArgs.ofArgs at asked
    split at asked
    · rename_i link priority
      simp only [Option.ite_none_right_eq_some, Bool.and_eq_true, inRange_iff] at asked
      have links : a[0].toNat ≤ 3 := by
        rw [linkOf_eq_some.1 link]
        omega
      have classes : a[4].toNat ≤ 3 := by
        by_contra high
        rw [priorityOf_eq_none high] at priority
        cases priority
      obtain ⟨⟨⟨⟨service, quota⟩, threshold⟩, depth⟩, -⟩ := asked
      exact ⟨links, service, quota, threshold, classes, depth⟩
    · cases asked

/-- Settles O23. -/
theorem circuitCallAllocatesACallingRecord : Obligations.CircuitCallAllocatesACallingRecord := by
  intro s cmd h a inRange'
  refine ⟨fun bad => ?_, fun l priority good link class_ => ?_⟩
  · change execCircuitCall s = _
    rw [execCircuitCall, State.completing_of_completes h, CallArgs.ofArgs_of_outOfRange bad]
    rfl
  have asked := CallArgs.ofArgs_of_inRange good link class_
  refine ⟨fun down => ?_, fun up full => ?_, fun up free room => ?_, fun c up free lowest room => ?_⟩
  · change execCircuitCall s = _
    rw [execCircuitCall, State.completing_of_completes h, asked]
    dsimp only
    rw [if_pos (by simpa [Link.isUp] using down)]
    rfl
  · change execCircuitCall s = _
    rw [execCircuitCall, State.completing_of_completes h, asked]
    dsimp only
    rw [if_neg (by simp [State.isUp_of_state up]), State.lowestFree_eq_none full]
    rfl
  · obtain ⟨c, lowest⟩ := State.exists_lowestFree free
    have noRoom : (!s.hasRoom a[2].toNat) = true := by
      rw [Bool.not_eq_true', ← Bool.not_eq_true, State.hasRoom_iff]
      omega
    change execCircuitCall s = _
    rw [execCircuitCall, State.completing_of_completes h, asked]
    dsimp only
    rw [if_neg (by simp [State.isUp_of_state up]), lowest]
    dsimp only
    rw [if_pos noRoom]
    rfl
  · intro r allocated
    have advertised : wordOf a[2].toNat = a[2] := by simp [wordOf]
    have same : s.allocate c (CallArgs.allocation
        { link := l, service := loByte a[1], quota := a[2].toNat, threshold := a[3].toNat, priority := priority
          depth := a[5].toNat, tag := a[6] }) = allocated := by
      simp only [State.allocate, CallArgs.allocation, Allocation.record, advertised]
      rfl
    change execCircuitCall s = _
    rw [execCircuitCall, State.completing_of_completes h, asked]
    dsimp only
    rw [if_neg (by simp [State.isUp_of_state up]), State.lowestFree_eq_some free lowest]
    dsimp only
    rw [if_neg (by simp [(State.hasRoom_iff s _).2 room])]
    dsimp only
    rw [same, State.complete_words (s := s) (by simp [allocated])]
    rfl

end Sys2Proof.Machine
end

section
/-! PROOFS. Timers (R11, R121), HELLO frames and frames that reach no record (chapter 6), the scheduler's choice
(R102), and the two commands on payloads, RECEIVE and SEND (chapters 4 and 5). -/

namespace Sys2Proof.Machine
set_option Elab.async false

variable {s t : State} {cmd : Command} {l : LinkNo} {c : CircuitNo} {r : Record} {f : Frame}

/-! ### Timers -/

/-- A link end after which the link seeks (R128, R129). -/
theorem State.loseLink_eq (t : State) (l : LinkNo) (cause : DownCause) (peerEpoch : Word) :
    t.loseLink l cause peerEpoch =
      (t.endLink l cause).onLink l fun y =>
        { y with
          state := .seeking
          ownEpoch := if y.ownEpoch = 65535 then 1 else y.ownEpoch + 1
          peerEpoch := peerEpoch
          helloDue := true
          helloTimer := some (t.settings.hello * 10)
          deadTimer := none } := rfl

/-- Settles O29. -/
theorem retryAskAndHelloTimersExpire : Obligations.RetryAskAndHelloTimersExpire := by
  intro s running
  refine ⟨fun c r before on => ?_, fun c r before on sends => ?_, fun l on runs => ?_, fun l on up => ?_,
    fun c r before => ⟨fun off => ?_, fun off => ?_, fun off => ?_⟩, fun l => ⟨fun off => ?_, fun off => ?_⟩⟩
  · have ticking : ¬ r.retryTimer.isNone = true := by simpa using on
    refine ⟨fun calling below => ?_, fun calling limit => ?_, fun x closing below => ?_, fun x closing limit => ?_⟩
    · change execRetryTimerExpiry c s = .next (State.finishClaim s (s.retransmit c r .openRequest) r.link)
      rw [execRetryTimerExpiry, State.unlessHeld_of_running running]
      simp only [before, calling, below, if_neg ticking, if_true]
    · change execRetryTimerExpiry c s = _
      rw [execRetryTimerExpiry, State.unlessHeld_of_running running]
      simp only [before, calling, Nat.not_lt.2 limit, if_neg ticking, if_false]
    · change execRetryTimerExpiry c s = .next (State.finishClaim s (s.retransmit c r .close) r.link)
      rw [execRetryTimerExpiry, State.unlessHeld_of_running running]
      simp only [before, closing, below, if_neg ticking, if_true]
    · change execRetryTimerExpiry c s = _
      rw [execRetryTimerExpiry, State.unlessHeld_of_running running]
      simp only [before, closing, Nat.not_lt.2 limit, if_neg ticking, if_false]
  · change execAskTimerExpiry c s = _
    rw [execAskTimerExpiry, State.unlessHeld_of_running running]
    simp only [before, sends, Option.isSome_iff_ne_none.2 on, Bool.and_self, if_true]
    rfl
  · change execHelloTimerExpiry l s = _
    rw [execHelloTimerExpiry, State.unlessHeld_of_running running, if_neg (by simpa using on)]
    cases state : (s.link l).state with
    | stopped => exact absurd state runs
    | seeking | up => rfl
  · change execDeadTimerExpiry l s = _
    rw [execDeadTimerExpiry, State.unlessHeld_of_running running, if_pos ⟨up, Option.isSome_iff_ne_none.2 on⟩,
      State.loseLink_eq]
  · change execRetryTimerExpiry c s = _
    rw [execRetryTimerExpiry, State.unlessHeld_of_running running]
    simp only [before, off, Option.isNone_none, if_true]
  · change execAskTimerExpiry c s = _
    rw [execAskTimerExpiry, State.unlessHeld_of_running running]
    simp only [before, off, Option.isSome_none, Bool.and_false, Bool.false_eq_true, if_false]
  · change execHoldTimerExpiry c s = _
    rw [execHoldTimerExpiry, State.unlessHeld_of_running running]
    simp only [before, off, Option.isSome_none, Bool.false_eq_true, and_false, if_false]
  · change execHelloTimerExpiry l s = _
    rw [execHelloTimerExpiry, State.unlessHeld_of_running running, if_pos (by simp [off])]
  · change execDeadTimerExpiry l s = _
    rw [execDeadTimerExpiry, State.unlessHeld_of_running running, if_neg (by simp [off])]

/-! ### HELLO frames -/

/-- Settles O41. -/
theorem helloFrameByStateAndEpochs : Obligations.HelloFrameByStateAndEpochs := by
  intro s t l epoch seen x answer
  refine ⟨fun h => ?_, fun h => ?_⟩
  · obtain ⟨running, state, taken⟩ := State.arrive_of_hears (by simp) h
    have own : ((t.assembled l).link l).ownEpoch = x.ownEpoch := by
      rw [State.assembled, State.link_onLink_self]
    have row : answer = .next (State.finishClaim t ((t.assembled l).seekingHello l epoch seen) l) := by
      have seeking : ((t.endAssembly l .gather).link l).state = .seeking := by
        rw [State.endAssembly, State.link_onLink_self]
        exact state
      refine (exec_row (f := .hello epoch seen) running trivial).trans ?_
      rw [taken]
      unfold State.handleFrame State.controller
      simp only [seeking]
      rfl
    refine ⟨fun zero => ?_, fun used same => ?_, fun used other => ?_⟩
    · rw [row, State.seekingHello, if_pos zero]
    · rw [row, State.seekingHello, if_neg used, own, if_pos same]
      rfl
    · rw [row, State.seekingHello, if_neg used, own, if_neg other]
  · have row : answer = .next (State.finishClaim t ((t.assembled l).upHello l epoch seen) l) :=
      exec_row_up (f := .hello epoch seen) trivial h
    have epochs : ((t.assembled l).link l).ownEpoch = x.ownEpoch ∧ ((t.assembled l).link l).peerEpoch = x.peerEpoch := by
      rw [State.assembled, State.link_onLink_self]
      exact ⟨rfl, rfl⟩
    have hello (used : epoch ≠ 0) : (t.assembled l).upHello l epoch seen =
        if epoch = x.peerEpoch ∧ seen = x.ownEpoch then t.heard l
        else (t.heard l).loseLink l .peerRestart epoch := by
      rw [State.upHello, if_neg used, epochs.1, epochs.2, State.restartDead_assembled]
    refine ⟨fun zero => ?_, fun used peer own => ?_, fun used other => ?_⟩
    · rw [row, State.upHello, if_pos zero]
    · rw [row, hello used, if_pos ⟨peer, own⟩]
    · rw [row, hello used, if_neg (by rintro ⟨peer, own⟩; exact other.elim (· peer) (· own)), State.loseLink_eq]
      rfl

/-! ### Frames that reach no record -/

/-- Settles O42. -/
theorem framesThatNoLinkControllerTakes : Obligations.FramesThatNoLinkControllerTakes := by
  intro s t l f fits running
  rw [exec_row running fits]
  refine ⟨fun unheard => ?_, fun h => ?_, fun h other => ?_⟩
  · unfold State.hears at unheard
    rw [if_neg (by simp [running])] at unheard
    cases looped : (s.link l).config.loopback with
    | false => rw [if_pos looped] at unheard; cases unheard
    | true =>
      rw [if_neg (by simp [looped])] at unheard
      by_cases next : lineCharacters f <+: (s.link l).loopPath
      · rw [if_pos next] at unheard; cases unheard
      · rw [State.arrive, if_pos looped, if_neg (by simpa using next)]
  · unfold State.hears at h
    split at h
    · cases h
    · rename_i gate
      simp only [not_or, Bool.not_eq_true, not_not] at gate
      split at h
      · rename_i unlooped
        cases h
        rw [State.arrive, if_neg (by simp [unlooped]), if_pos gate.2]
      · rename_i looped
        split at h
        · rename_i next
          cases h
          rw [State.arrive, if_pos (by simpa using looped), if_pos (List.isPrefixOf_iff_prefix.2 next)]
          exact congrArg _ (if_pos gate.2)
        · cases h
  · obtain ⟨-, state, taken⟩ := State.arrive_of_hears (by simp) h
    have seeking : ((t.endAssembly l .gather).link l).state = .seeking := by
      rw [State.endAssembly, State.link_onLink_self]
      exact state
    rw [taken]
    unfold State.handleFrame State.controller
    simp only [seeking]
    cases f with
    | hello epoch seen => exact absurd rfl (other epoch seen)
    | _ => rfl

/-! ### The scheduler's choice -/

/-- The boundaries of a claim that bears on every link (R101). -/
theorem State.boundaries_eq (s : State) : s.boundaries = (((s.boundary 0).boundary 1).boundary 2).boundary 3 := by
  have links : allLinks = [0, 1, 2, 3] := rfl
  rw [State.boundaries, links, List.foldl_cons, List.foldl_cons, List.foldl_cons, List.foldl_cons, List.foldl_nil]

/-- Settles O35. -/
theorem schedulerServesTheFirstSource : Obligations.SchedulerServesTheFirstSource := by
  refine ⟨fun s => State.boundaries_eq s, fun s l => ⟨fun stopped => if_pos (.inl stopped),
    fun busy => if_pos (.inr (Option.isSome_iff_ne_none.2 busy)), fun runs free => ?_⟩⟩
  have idle : ¬ ((s.link l).state = .stopped ∨ (s.link l).onLine.isSome = true) := by simp [runs, free]
  rw [State.boundary, if_neg idle, State.choose]
  refine ⟨fun due => if_pos due, fun notDue => ?_⟩
  rw [if_neg (by simp [notDue])]
  refine ⟨fun c rest list => by rw [list], fun noControl => ?_⟩
  rw [noControl]
  refine ⟨fun item rest list => by rw [list], fun noAnswer => ?_⟩
  rw [noAnswer]
  exact ⟨fun p c chosen => by simp only [chosen], fun nothing => by simp only [nothing]⟩

/-! ### RECEIVE -/

/-- The data area after a payload has been written (R91). -/
theorem writeWords_payloadWords (v : Vector Word 16) (payload : List Byte) :
    writeWords v (payloadWords payload) =
      Vector.ofFn fun k : Fin 16 => pack (payload.getD (2 * k.val + 1) 0) (payload.getD (2 * k.val) 0) := by
  refine Vector.ext fun k hk => ?_
  have written := writeWords_named (payloadWords payload) v ⟨k, hk⟩
    (pack (payload.getD (2 * k + 1) 0) (payload.getD (2 * k) 0))
    (List.mem_map.2 ⟨⟨k, hk⟩, List.mem_finRange _, rfl⟩)
    (by simpa [payloadWords, Function.comp_def] using List.nodup_finRange 16)
  simpa using written

/-- Settles O32. -/
theorem receiveDeliversTheOldestPayload : Obligations.ReceiveDeliversTheOldestPayload := by
  intro s cmd c r h names
  refine ⟨fun early => ?_, fun called accepted empty => ?_, fun item rest called accepted queue => ?_⟩
  · change execReceive s = _
    rw [execReceive, State.completing_of_completes h, State.forCircuit_of_names names, if_pos early]
    rfl
  · change execReceive s = _
    rw [execReceive, State.completing_of_completes h, State.forCircuit_of_names names, if_neg (by tauto), empty]
    rfl
  · intro lead u v w
    have due : (Phase.carriesData r.phase && Record.grantDue { r with rxQueue := rest }) = true ↔
        r.phase.carriesData = true ∧ r.threshold ≤ lead.toNat := by
      simp [Record.grantDue, Record.candidate, lead]
    have owes : (if (Phase.carriesData r.phase && Record.grantDue { r with rxQueue := rest }) = true then
        v.owe c .grant else v) = w := if_congr due rfl rfl
    have args : (State.finishClaim s w r.link).args = s.args := by
      have kept : w.args = s.args := by
        rw [← owes]
        split <;> simp [u, v]
      simpa using kept
    change execReceive s = _
    rw [execReceive, State.completing_of_completes h, State.forCircuit_of_names names, if_neg (by tauto), queue]
    change Host.Outcome.next ((State.finishClaim s
      (if (Phase.carriesData r.phase && Record.grantDue { r with rxQueue := rest }) = true then v.owe c .grant
        else v) r.link).complete cmd (receiveReply c item rest.length)) = _
    rw [owes]
    generalize State.finishClaim s w r.link = x at args
    rw [receiveReply, State.complete, args, writeWords_payloadWords]
    rfl

/-! ### SEND -/

/-- The first bytes of the data area, low half of each word first (R97, R163). -/
theorem payloadOf_eq (data : Vector Word 16) (n : Nat) :
    payloadOf data n = ((List.finRange 32).map fun j =>
      if j.val % 2 = 0 then loByte (data[j.val / 2]'(by omega)) else hiByte (data[j.val / 2]'(by omega))).take n := by
  rw [payloadOf, List.map_take]
  rfl

/-- The ask timer after a payload has been queued (R89). -/
theorem Record.askTimer_queued {n : Nat} {payload : List Byte} (runs : r.askTimer.isSome = r.blocked)
    (phase : r.phase = .calling ∨ r.phase = .opened) :
    (Record.settleAsk n r { r with txQueue := r.txQueue ++ [payload] }).askTimer =
      if r.phase = .opened ∧ r.txQueue = [] ∧ r.creditLimit = r.sent then some n else r.askTimer := by
  have same (w v : Word) : w - v = 0#16 ↔ w = v := sub_eq_zero
  have after : Record.blocked { r with txQueue := r.txQueue ++ [payload] } = true ↔
      r.phase = .opened ∧ r.creditLimit = r.sent := by
    rcases phase with phase | phase <;>
      simp [Record.blocked, phase, Phase.sendsData, same, Record.credit]
  have before : r.blocked = true ↔ r.phase = .opened ∧ r.txQueue ≠ [] ∧ r.creditLimit = r.sent := by
    rcases phase with phase | phase <;> simp [Record.blocked, phase, Phase.sendsData, same, Record.credit]
  rw [Record.settleAsk]
  dsimp only
  by_cases blocks : r.phase = .opened ∧ r.creditLimit = r.sent
  · rw [if_pos (after.2 blocks)]
    by_cases empty : r.txQueue = []
    · rw [if_neg (fun e => (before.1 e).2.1 empty), if_pos ⟨blocks.1, empty, blocks.2⟩]
    · rw [if_pos (before.2 ⟨blocks.1, empty, blocks.2⟩), if_neg (fun e => empty e.2.1)]
  · have stopped : r.askTimer = none := by
      rw [← Option.not_isSome_iff_eq_none, runs]
      exact fun e => blocks ⟨(before.1 e).1, (before.1 e).2.2⟩
    rw [if_neg (fun e => blocks (after.1 e)), if_neg (fun e => blocks ⟨e.1, e.2.2⟩), stopped]

/-- Settles O33. -/
theorem sendQueuesAPayload : Obligations.SendQueuesAPayload := by
  intro s cmd c r h names n full
  have length : inRange 1 32 n = true ↔ 1 ≤ n ∧ n ≤ 32 := inRange_iff _ _ _
  refine ⟨fun bad => ?_, fun least most called opened => ?_, fun least most phase isFull => ?_,
    fun least most phase fits runs => ?_⟩
  · change execSend s = _
    rw [execSend, State.completing_of_completes h, State.forCircuit_of_names names]
    dsimp only
    rw [if_pos (by rw [Bool.not_eq_true', ← Bool.not_eq_true, length]; omega)]
    rfl
  · change execSend s = _
    rw [execSend, State.completing_of_completes h, State.forCircuit_of_names names]
    dsimp only
    rw [if_neg (by simpa using length.2 ⟨least, most⟩), if_pos ⟨called, opened⟩]
    rfl
  · change execSend s = _
    rw [execSend, State.completing_of_completes h, State.forCircuit_of_names names]
    dsimp only
    rw [if_neg (by simpa using length.2 ⟨least, most⟩), if_neg (by tauto), if_pos isFull]
    rfl
  · intro payload queued u
    change execSend s = _
    rw [execSend, State.completing_of_completes h, State.forCircuit_of_names names]
    dsimp only
    rw [if_neg (by simpa using length.2 ⟨least, most⟩), if_neg (by tauto), if_neg fits]
    have settled : Record.settleAsk s.settings.askMs r { r with txQueue := r.txQueue ++ [payloadOf cmd.data n] } =
        queued := by
      have timer := Record.askTimer_queued (n := s.settings.askMs) (payload := payload) runs phase
      rw [payloadOf_eq]
      exact congrArg (fun timer => { r with txQueue := r.txQueue ++ [payload], askTimer := timer }) timer
    rw [settled, State.complete_words (s := s) (by simp),
      show queued.txQueue.length = r.txQueue.length + 1 from List.length_append]
    rfl

end Sys2Proof.Machine
end

section
/-! PROOFS. The shared operations (O48), NEXT-NOTICE (O47), and what the lines bring: discards and line faults
(O44), characters and the assembly (O45). -/

namespace Sys2Proof.Machine
set_option Elab.async false

variable {s t : State} {cmd : Command} {l : LinkNo} {c : CircuitNo} {r : Record}

/-! ### Sets of flags -/

theorem Owed.isEmpty_iff_eq (o : Owed) : o.isEmpty = true ↔ o = { } := by
  obtain ⟨accept, grant, ask, openRequest, close, closed⟩ := o
  simp [Owed.isEmpty, and_assoc]

theorem CircuitPending.isEmpty_iff_eq (p : CircuitPending) : p.isEmpty = true ↔ p = { } := by
  obtain ⟨opened, offered, data, room, ended⟩ := p
  simp [CircuitPending.isEmpty, and_assoc]

theorem LinkPending.isEmpty_iff_eq (p : LinkPending) : p.isEmpty = true ↔ p = { } := by
  obtain ⟨up, down, fault⟩ := p
  simp [LinkPending.isEmpty, and_assoc]

/-- A posted kind is pending besides those that were (R153). -/
theorem CircuitPending.has_add (p : CircuitPending) (k j : CircuitNotice) :
    (p.add k).has j = (p.has j || decide (j = k)) := by
  cases k with
  | opened | offered | data | room | ended => cases j <;> simp [CircuitPending.add, CircuitPending.has]

theorem LinkPending.has_add (p : LinkPending) (k j : LinkNotice) :
    (p.add k).has j = (p.has j || decide (j = k)) := by
  cases k with
  | up | down | fault => cases j <;> simp [LinkPending.add, LinkPending.has]

/-! ### The shared operations -/

/-- A kind is owed: the circuit joins the control list of its UP link where nothing was owed (R8, R135). -/
theorem State.owe_eq (present : s.record c = some r) (k : ControlKind) :
    s.owe c k =
      if r.owed = { } ∧ (s.link r.link).state = .up then
        (s.setRecord c (some { r with owed := r.owed.put k true })).onLink r.link fun x =>
          { x with controlList := x.controlList ++ [c] }
      else s.setRecord c (some { r with owed := r.owed.put k true }) := by
  rw [State.owe, present]
  exact if_congr (by simp [Owed.isEmpty_iff_eq, Link.isUp]) rfl rfl

theorem filter_ne (xs : List CircuitNo) (c : CircuitNo) :
    (xs.filter fun d => d ≠ c) = xs.filter (· != c) :=
  List.filter_congr fun d _ => (bne_eq_decide_ne d c).symm

/-- A record that owes less is written: the circuit leaves the control list where nothing is owed (R135). -/
theorem State.putLessOwed_eq (s : State) (c : CircuitNo) (r : Record) :
    s.putLessOwed c r =
      if r.owed = { } then
        (s.setRecord c (some r)).onLink r.link fun x =>
          { x with controlList := x.controlList.filter fun d => d ≠ c }
      else s.setRecord c (some r) := by
  rw [State.putLessOwed]
  refine if_congr (Owed.isEmpty_iff_eq _) ?_ rfl
  simp only [filter_ne]
  rfl

theorem Owed.afterEnd_eq_empty (o : Owed) : o.afterEnd = { } ↔ o.close = false ∧ o.closed = false := by
  simp [Owed.afterEnd]

/-- The services after a circuit has left the counted states (R26). -/
theorem State.uncount_services (kept : t.services = s.services) (r : Record) :
    t.uncount r =
      { t with
        services :=
          if r.direction = .incoming then
            s.services.map fun e => if e.number = r.service then { e with active := e.active - 1 } else e
          else s.services } := by
  rw [State.uncount]
  cases direction : r.direction with
  | outgoing => rw [if_neg nofun, ← kept]
  | incoming =>
    rw [if_pos rfl, ← kept]
    rfl

/-- Settles O48. -/
theorem owingEndingAnsweringAndPosting : Obligations.OwingEndingAnsweringAndPosting := by
  refine ⟨fun s c r k present => State.owe_eq present k, fun s c r k present => ?_, fun o k j b => ?_,
    fun s c r cause detail present => ?_, fun s c r x present => ⟨fun sends => ?_, fun closing => ?_⟩,
    fun s l item => ?_, fun s c k => ⟨fun j => ?_, ?_⟩, fun s l k => ⟨fun j => ?_, ?_⟩⟩
  · rw [State.disown, present]
    exact State.putLessOwed_eq _ _ _
  · by_cases same : j = k
    · rw [if_pos same, same, Owed.has_put_self]
    · rw [if_neg same, Owed.has_put_ne o b same]
  · intro ended t₁ t₂ services t
    have written : s.putLessOwed c (r.atEnd cause detail) = t₂ :=
      (State.putLessOwed_eq _ _ _).trans (if_congr (Owed.afterEnd_eq_empty r.owed) rfl rfl)
    have txFree : t₂.txFree = s.txFree := by rw [← written]; simp
    have kept : t₂.services = s.services := by rw [← written]; simp
    rw [State.endCircuit, present]
    dsimp only
    rw [written, State.uncount_services (s := s) (by simpa using kept), txFree]
    rfl
  · rw [State.forceClose, present]
    dsimp only
    cases phase : r.phase with
    | opened | draining => rfl
    | calling | offered | closing | ended => simp [phase, Phase.sendsData] at sends
  · rw [State.forceClose, present]
    dsimp only
    rw [closing]
  · rw [State.answer, State.onLink]
    have capacity : Config.answerCapacity = 8 := rfl
    rw [capacity]
    by_cases space : (s.link l).answerList.length < 8
    · simp only [if_pos space]
    · simp only [if_neg space]
  · simp [State.postCircuit, CircuitPending.has_add]
  · simp [State.postCircuit, CircuitPending.isEmpty_iff_eq]
  · simp [State.postLink, LinkPending.has_add]
  · simp [State.postLink, LinkPending.isEmpty_iff_eq]

/-! ### NEXT-NOTICE -/

/-- The flags of R152 for a circuit. -/
theorem CircuitPending.flags_eq (p : CircuitPending) :
    p.flags = (if p.opened then 1 else 0) + (if p.offered then 2 else 0) + (if p.data then 4 else 0)
      + (if p.room then 8 else 0) + (if p.ended then 16 else 0) := rfl

theorem LinkPending.flags_eq (p : LinkPending) :
    p.flags = (if p.up then 1 else 0) + (if p.down then 2 else 0) + (if p.fault then 4 else 0) := rfl

/-- The last down cause, as a byte of the window (R121). -/
theorem byteOf_downCode (d : Option DownCause) :
    byteOf (downCode d) =
      match d with
      | none => 0
      | some .linkStopped => 12
      | some .linkLost => 13
      | some .peerRestart => 14 := by
  cases d with
  | none => rfl
  | some cause => cases cause <;> rfl

/-- The frames discarded, as a byte of the window (R155). -/
theorem Phase.discardedByte_eq (p : Phase) :
    byteOf p.framesDiscarded =
      match p with
      | .ended _ _ discarded => byteOf discarded
      | _ => 0 := by
  cases p <;> rfl

/-- Settles O47. -/
theorem nextNoticeCollectsTheHead : Obligations.NextNoticeCollectsTheHead := by
  intro s cmd h
  refine ⟨fun empty => ?_, fun c rest r list present => ?_, fun l rest list => ?_⟩
  · change execNextNotice s = _
    rw [execNextNotice, State.completing_of_completes h, empty]
    rfl
  · change execNextNotice s = _
    rw [execNextNotice, State.completing_of_completes h, list]
    dsimp only
    have inTable : (s.circuit c).record = some r := present
    rw [circuitNoticeReply, inTable]
    dsimp only [List.cons_append, List.nil_append]
    rw [State.complete_words (s := s)
        (t := { s with circuitNotices := s.circuitNotices.set c { }, noticeList := rest }) rfl,
      writeWords_eight, CircuitPending.flags_eq, Circuit.stateCode, inTable, Phase.endWord_eq,
      Phase.discardedByte_eq]
    rfl
  · change execNextNotice s = _
    rw [execNextNotice, State.completing_of_completes h, list]
    dsimp only
    rw [linkNoticeReply,
      State.complete_words (s := s) (t := { s with linkNotices := s.linkNotices.set l { }, noticeList := rest }) rfl,
      writeWords_eight, LinkPending.flags_eq, byteOf_downCode]
    rfl

/-! ### Discards and line faults -/

/-- A fault is recorded of a link whose assembly has been left (R118, R120). -/
theorem State.recordFault_endAssembly (s : State) (l : LinkNo) (a : Assembly) (cause : FaultCause) :
    (s.endAssembly l a).recordFault l cause =
      (s.setLink l { s.link l with assembly := a, buffer := [], lastFault := cause }).postLink l .fault := by
  rw [State.recordFault, State.endAssembly, State.onLink_onLink]
  rfl

theorem State.setLink_setLink (s : State) (l : LinkNo) (x y : Link) : (s.setLink l x).setLink l y = s.setLink l y := by
  simp [State.setLink]

theorem State.setReceiver_eq (s : State) (l : LinkNo) (x : ReceiverState) :
    s.setReceiver l x = s.setLink l { s.link l with receiver := x } := rfl

/-- Settles O44. -/
theorem discardsAndLineFaultsAreRecorded : Obligations.DiscardsAndLineFaultsAreRecorded := by
  intro s l running x
  refine ⟨fun cause => ⟨fun deaf => ?_, fun runs unlooped => ?_⟩, ?_⟩
  · change execFrameDiscard l cause s = _
    rw [execFrameDiscard, State.unlessHeld_of_running running, State.discard, if_pos deaf]
  · change execFrameDiscard l cause s = _
    rw [execFrameDiscard, State.unlessHeld_of_running running, State.discard,
      if_neg (by simp [x] at runs unlooped; simp [runs, unlooped]), State.handleDiscard, State.recordFault_endAssembly]
    rcases cause with ⟨_ | _⟩ | _ <;> rfl
  · intro cause y parity found
    have characters : x.characterConfig.parity = parity := by
      simp only [Link.characterConfig, parity]
      cases x.receiver <;> rfl
    have finds : (s.link l).findsFault cause = true ↔ found := by
      change x.findsFault cause = true ↔ found
      rw [Link.findsFault, characters]
      simp [found, and_assoc, imp_iff_not_or]
    have settled : faultReceiver cause = y.receiver := by cases cause <;> rfl
    change (¬ found → execLineFault l cause s = _) ∧ (found → _ → execLineFault l cause s = _) ∧
      (found → _ → execLineFault l cause s = _)
    rw [execLineFault, State.unlessHeld_of_running running, State.takeLineFault]
    refine ⟨fun missed => by rw [if_neg (missed ∘ finds.1)], fun hit stopped => ?_, fun hit runs => ?_⟩
    · rw [if_pos (finds.2 hit), State.deliverFault, if_pos (by simpa [State.setReceiver] using stopped),
        State.setReceiver_eq, settled]
    · rw [if_pos (finds.2 hit), State.deliverFault, if_neg (by simpa [State.setReceiver] using runs),
        State.recordFault_endAssembly, State.setReceiver_eq, State.setLink_setLink, State.link_setLink_self, settled]
      cases cause <;> rfl

/-! ### Characters and the assembly -/

/-- A looped receiver with a character next on its internal path (R149). -/
theorem State.watchPath_of_next {b : Byte} {rest : List Byte} (next : (s.link l).loopPath = b :: rest)
    (input : ReceiverInput) :
    s.watchPath l input =
      match input with
      | .startEdge =>
        if (s.link l).receiver = .ready then s.setReceiver l (.receiving (s.link l).config) else s
      | .spaceWithoutEdge => s
      | .character _ =>
        if (s.link l).receiver = .waiting then s
        else (s.setLink l { s.link l with receiver := .ready, loopPath := rest }).deliver l b := by
  rw [State.watchPath, next]
  cases input with
  | startEdge | spaceWithoutEdge => rfl
  | character samples =>
    dsimp only
    rw [State.setReceiver, State.onLink_onLink]
    rfl

theorem State.watchPath_of_empty (empty : (s.link l).loopPath = []) (input : ReceiverInput) :
    s.watchPath l input = s := by
  rw [State.watchPath, empty]

/-- A character that ends nothing changes the assembly alone (R118). -/
theorem State.deliver_of_nothing (runs : (s.link l).state ≠ .stopped) {b : Byte} {a : Assembly} {buffer : List Byte}
    (assembled : assemble (s.link l).assembly (s.link l).buffer b = (a, buffer, .nothing)) :
    s.deliver l b = s.setLink l { s.link l with assembly := a, buffer := buffer } := by
  rw [State.deliver, if_neg runs, assembled]
  rfl

theorem State.deliver_of_discard (runs : (s.link l).state ≠ .stopped) {b : Byte} {a : Assembly} {buffer : List Byte}
    {cause : FrameFault}
    (assembled : assemble (s.link l).assembly (s.link l).buffer b = (a, buffer, .discard cause)) :
    s.deliver l b = s.handleDiscard l cause := by
  rw [State.deliver, if_neg runs, assembled]

/-- A delimiter ends a frame, which is then checked (R118, R119). -/
theorem State.deliver_of_frameEnd (runs : (s.link l).state ≠ .stopped) {b : Byte} {a : Assembly}
    {buffer bytes : List Byte}
    (assembled : assemble (s.link l).assembly (s.link l).buffer b = (a, buffer, .frameEnd bytes)) :
    s.deliver l b =
      match checkFrame bytes with
      | .ok f => s.handleFrame l f
      | .error cause => s.handleDiscard l cause := by
  rw [State.deliver, if_neg runs, assembled] <;> rfl

/-- A byte joins the buffer of a running link, or is one too many (R118). -/
theorem State.deliver_of_gathers (runs : (s.link l).state ≠ .stopped) {b c : Byte}
    (gathers : assemble (s.link l).assembly (s.link l).buffer b = gatherByte (s.link l).buffer c) :
    s.deliver l b =
      if 40 ≤ (s.link l).buffer.length then s.handleDiscard l .oversize
      else s.setLink l { s.link l with assembly := .gather, buffer := (s.link l).buffer ++ [c] } := by
  have largest : Config.maxFrame = 40 := rfl
  rw [gatherByte, largest] at gathers
  by_cases full : 40 ≤ (s.link l).buffer.length
  · rw [if_pos full] at gathers ⊢
    exact State.deliver_of_discard runs gathers
  · rw [if_neg full] at gathers ⊢
    exact State.deliver_of_nothing runs gathers

/-- Settles O45. -/
theorem charactersAreJudgedAndAssembled : Obligations.CharactersAreJudgedAndAssembled := by
  intro s l running x put answer parity seesEdge
  have row (input : ReceiverInput) :
      answer input = .next (if x.config.loopback = true then s.watchPath l input else s.watchLine l input) := by
    change execReceivedCharacter l input s = _
    rw [execReceivedCharacter, State.unlessHeld_of_running running]
  have characters : x.characterConfig.parity = parity := by
    simp only [Link.characterConfig, parity]
    cases x.receiver <;> rfl
  refine ⟨fun sees => ?_, fun blind => ?_, fun unlooped ready => ?_, fun deaf => ?_, fun samples looped empty => ?_,
    fun samples b rest looped next watches => ?_, fun samples waits => ?_, fun samples unlooped watches => ?_, ?_⟩
  · rw [row]
    cases looped : x.config.loopback with
    | false => rw [if_neg nofun, State.watchLine, if_pos sees.1]; rfl
    | true =>
      obtain ⟨b, rest, next⟩ := List.exists_cons_of_ne_nil (sees.2 looped)
      rw [if_pos rfl, State.watchPath_of_next next]
      exact congrArg _ (if_pos sees.1)
  · rw [row]
    cases looped : x.config.loopback with
    | false =>
      rw [if_neg nofun, State.watchLine, if_neg fun ready => blind ⟨ready, by simp [looped]⟩]
    | true =>
      rw [if_pos rfl]
      cases next : x.loopPath with
      | nil => rw [State.watchPath_of_empty next]
      | cons b rest =>
        rw [State.watchPath_of_next next]
        exact congrArg _ (if_neg fun ready => blind ⟨ready, by simp [next]⟩)
  · rw [row, if_neg (by simp [unlooped]), State.watchLine, if_pos ready]
    rfl
  · rw [row]
    cases looped : x.config.loopback with
    | false => rw [if_neg nofun, State.watchLine, if_neg (deaf.resolve_left (by simp [looped]))]
    | true =>
      rw [if_pos rfl]
      cases next : x.loopPath with
      | nil => rw [State.watchPath_of_empty next]
      | cons b rest => rw [State.watchPath_of_next next]
  · rw [row, if_pos looped, State.watchPath_of_empty empty]
  · rw [row, if_pos looped, State.watchPath_of_next next]
    exact congrArg _ (if_neg watches)
  · rw [row]
    cases looped : x.config.loopback with
    | false => rw [if_neg nofun, State.watchLine, if_pos waits]
    | true =>
      rw [if_pos rfl]
      cases next : x.loopPath with
      | nil => rw [State.watchPath_of_empty next]
      | cons b rest =>
        rw [State.watchPath_of_next next]
        exact congrArg _ (if_pos waits)
  · have line : answer (.character samples) = .next
        (match judge parity samples with
        | .falseStart => s.setReceiver l .ready
        | .character b => (s.setReceiver l .ready).deliver l b
        | .fault f => s.takeLineFault l f) := by
      rw [row, if_neg (by simp [unlooped]), State.watchLine, if_neg watches]
      change Host.Outcome.next (match judge x.characterConfig.parity samples with
        | .falseStart => s.setReceiver l .ready
        | .character b => (s.setReceiver l .ready).deliver l b
        | .fault f => s.takeLineFault l f) = _
      rw [characters]
    refine ⟨fun judged => ?_, fun b judged => ?_, fun f judged => ?_⟩
    · rw [line, judged]; rfl
    · rw [line, judged]; rfl
    · rw [line, judged]
      change _ = execLineFault l f s
      rw [execLineFault, State.unlessHeld_of_running running]
  · intro b at_ appended
    have table {a : Assembly} (state : x.assembly = a) :
        assemble (s.link l).assembly (s.link l).buffer b = assemble a x.buffer b := by rw [← state]
    refine ⟨fun stopped => if_pos stopped, fun runs => ⟨fun hunts => ?_, fun gathers ends empty => ?_,
      fun gathers ends full => ?_, fun gathers escapes => ?_, fun gathers plain unescaped => ?_,
      fun escaped eight => ?_, fun escaped nine => ?_, fun escaped ends => ?_,
      fun escaped notEight notNine plain => ?_⟩⟩
    · by_cases ends : b = 0xF8
      · rw [if_pos ends]
        exact State.deliver_of_nothing runs ((table hunts).trans (if_pos ends))
      · rw [if_neg ends, State.deliver_of_nothing runs ((table hunts).trans (if_neg ends)), ← hunts]
        exact State.setLink_link s l
    · rw [State.deliver_of_nothing (a := .gather) (buffer := []) runs
        ((table gathers).trans (by subst ends; rw [empty]; rfl)), ← gathers, ← empty]
      exact State.setLink_link s l
    · exact State.deliver_of_frameEnd (a := .gather) (buffer := []) runs
        ((table gathers).trans (by
          subst ends
          exact congrArg (fun event => (Assembly.gather, [], event)) (if_neg (by simpa using full))))
    · exact State.deliver_of_nothing runs ((table gathers).trans (by subst escapes; rfl))
    · exact State.deliver_of_gathers runs
        ((table gathers).trans (by rw [assemble]; exact (if_neg plain).trans (if_neg unescaped)))
    · exact State.deliver_of_gathers runs ((table escaped).trans (by subst eight; rfl))
    · exact State.deliver_of_gathers runs ((table escaped).trans (by subst nine; rfl))
    · exact State.deliver_of_discard (a := .gather) (buffer := []) runs ((table escaped).trans (by subst ends; rfl))
    · exact State.deliver_of_discard (a := .hunt) (buffer := []) runs ((table escaped).trans
        ((if_neg notEight).trans ((if_neg notNine).trans (if_neg plain))))

end Sys2Proof.Machine
end

section
/-! PROOFS. The line transmitter and the receiver (O34), the commands of a link (O39, O40), and the start of
each frame (O37). -/

namespace Sys2Proof.Machine
set_option Elab.async false

variable {s t : State} {cmd : Command} {l : LinkNo} {c : CircuitNo} {r : Record}

/-! ### The line transmitter and the receiver -/

/-- The end of a frame: the transmitter is IDLE, and the cell of a DATA frame returns (R95, R109). -/
theorem State.endFrame_eq {f : Frame} (sending : (s.link l).onLine = some f) :
    s.endFrame l =
      match (generalizing := false) f with
      | .data _ _ _ =>
        { s.setLink l { s.link l with onLine := none, transmitter := .idle } with txFree := s.txFree + 1 }
      | _ => s.setLink l { s.link l with onLine := none, transmitter := .idle } := by
  rw [State.endFrame, State.clearLine, sending]
  cases f <;> simp [Frame.holdsCell, State.onLink, State.setLink, State.link]

theorem ite_isSome {α β : Type} [DecidableEq α] (o : Option α) (a b : β) :
    (if o.isSome = true then a else b) = if o = none then b else a := by
  cases o with
  | none | some => simp

/-- Settles O34. -/
theorem lineEventsOfTheTransmitterAndReceiver : Obligations.LineEventsOfTheTransmitterAndReceiver := by
  intro s l running
  refine ⟨fun f sending noCut => ?_, fun nothing => ?_, fun noCut => ?_, fun n cuts => ?_, fun waits => ?_,
    fun watches => ?_, ?_, fun idle => ?_, fun cfg f sends sending => ?_, fun cfg sends => ?_⟩
  · intro t₁ t₂ u
    have ended : s.endFrame l = t₂ := State.endFrame_eq sending
    change execTransmissionCompletion l s = _
    rw [execTransmissionCompletion, State.unlessHeld_of_running running, if_neg (by simp [sending, noCut]), ended]
    change Host.Outcome.next (u.idleHello l) = _
    have settings : u.settings = s.settings := by
      have kept : t₂.settings = s.settings := by rw [← ended]; simp
      simpa [u] using kept
    have timer : u.settings.helloMs = s.settings.hello * 10 := congrArg Settings.helloMs settings
    rw [State.idleHello, State.onLink, timer]
    by_cases idles : (u.link l).state = .up ∧ (u.link l).onLine = none
    · rw [if_pos idles, if_pos (by simp [Link.isUp, idles])]
    · rw [if_neg idles, if_neg (by simpa [Link.isUp] using idles), State.setLink_link]
  · change execTransmissionCompletion l s = _
    rw [execTransmissionCompletion, State.unlessHeld_of_running running, if_pos (by simpa using nothing)]
  · change execCutDelimiterCompletion l s = _
    rw [execCutDelimiterCompletion, State.unlessHeld_of_running running, if_pos noCut]
  · change execCutDelimiterCompletion l s = _
    rw [execCutDelimiterCompletion, State.unlessHeld_of_running running, if_neg (by simp [cuts]), State.onLink,
      Link.endDelimiter, cuts, Nat.add_sub_cancel]
    simp only [ite_isSome]
  · change execReturnToMark l s = _
    rw [execReturnToMark, State.unlessHeld_of_running running, if_pos waits]
    rfl
  · change execReturnToMark l s = _
    rw [execReturnToMark, State.unlessHeld_of_running running, if_neg watches]
  · rw [State.outputAtMark, running, Bool.false_or, Link.sendsInside]
    cases (s.link l).transmitter <;> simp
  · rw [Link.wave, idle]
  · rw [Link.wave, sends, sending]
    rfl
  · rw [Link.wave, sends]
    rfl

/-! ### LINK-START and LINK-STOP -/

/-- The checks that the commands of a link make first. -/
theorem linkOf_of_bad {n : Nat} (bad : 3 < n) : linkOf n = none := dif_neg (by omega)

theorem linkOf_val (l : LinkNo) : linkOf l.val = some l := dif_pos l.isLt

theorem Link.afterCut_of_idle {x : Link} (idle : x.onLine = none) : x.afterCut = { x with onLine := none } := by
  cases x
  cases idle
  rfl

theorem Link.afterCut_of_sending {x : Link} {f : Frame} (sending : x.onLine = some f) :
    x.afterCut =
      { x with
        onLine := none
        transmitter := x.transmitter.cut
        cutDelimiters := x.cutDelimiters + 1
        loopPath := if x.config.loopback then x.cutPath f else x.loopPath } := by
  rw [Link.afterCut, sending]

/-- A stop changes its link, and gives back the cell of a DATA frame (R111, R130). -/
theorem State.stopLink_eq (u : State) (l : LinkNo) :
    u.stopLink l =
      { u.setLink l ((u.stopLink l).link l) with
        txFree := match (u.link l).onLine with
          | some (.data _ _ _) => u.txFree + 1
          | _ => u.txFree } := by
  rw [State.link_stopLink, State.stopLink, State.cutFrame]
  unfold Link.afterCut
  cases sending : (u.link l).onLine with
  | none => rfl
  | some f =>
    simp only [State.clearLine, sending]
    cases f <;> simp [Frame.holdsCell, State.onLink, State.setLink, State.link] <;> rfl

@[simp] theorem State.args_stopLink (u : State) (l : LinkNo) : (u.stopLink l).args = u.args := by
  rw [State.stopLink_eq]
  rfl

/-- Settles O40. -/
theorem linkStartAndLinkStop : Obligations.LinkStartAndLinkStop := by
  intro s cmd l x epoch stopped
  have stops (u : State) : u.stopLink l = stopped u := by
    rw [State.stopLink_eq, State.link_stopLink]
    simp only [stopped]
    cases sending : (u.link l).onLine with
    | none =>
      rw [Link.afterCut_of_idle sending]
      rfl
    | some f =>
      rw [Link.afterCut_of_sending sending, Link.cutPath, Link.begunOnPath]
      cases transmitter : (u.link l).transmitter <;> cases f <;> rfl
  have finishes : State.finishClaim s (s.onLink l fun x => (x.seek s.settings.helloMs 0).huntEmpty) l =
      State.boundary (s.onLink l fun x => (x.seek s.settings.helloMs 0).huntEmpty) l :=
    congrArg (State.boundary · l) (if_neg (Nat.lt_irrefl _))
  have live : s.liveOn l =
      allCircuits.countP fun c => (s.record c).any fun r => decide (r.link = l) && r.phase.live := by
    rw [State.liveOn, List.countP_eq_length_filter]
    refine congrArg List.length (List.filter_congr fun c _ => ?_)
    cases s.record c <;> rfl
  refine ⟨fun h bad => ?_, fun h names runs => ?_, fun h names rests => ?_, fun h bad => ?_, fun h names rests => ?_,
    fun h names seeks => ?_, fun h names up => ?_⟩
  · change execLinkStart s = _
    rw [execLinkStart, State.completing_of_completes h, linkOf_of_bad bad]
    rfl
  · change execLinkStart s = _
    rw [execLinkStart, State.completing_of_completes h, names, linkOf_val]
    dsimp only
    rw [if_pos runs]
    rfl
  · change execLinkStart s = _
    rw [execLinkStart, State.completing_of_completes h, names, linkOf_val]
    dsimp only
    rw [if_neg (not_not.2 rests), State.complete_words (s := s) (by simp), State.link_onLink_self, finishes]
    rfl
  · change execLinkStop s = _
    rw [execLinkStop, State.completing_of_completes h, linkOf_of_bad bad]
    rfl
  · change execLinkStop s = _
    rw [execLinkStop, State.completing_of_completes h, names, linkOf_val]
    dsimp only
    rw [show (s.link l).state = .stopped from rests]
    rfl
  · change execLinkStop s = _
    rw [execLinkStop, State.completing_of_completes h, names, linkOf_val]
    dsimp only
    rw [show (s.link l).state = .seeking from seeks]
    dsimp only
    rw [State.complete_words (s := s) (by simp), stops]
    rfl
  · change execLinkStop s = _
    rw [execLinkStop, State.completing_of_completes h, names, linkOf_val]
    dsimp only
    rw [show (s.link l).state = .up from up]
    dsimp only
    rw [State.complete_words (s := s) (by simp), stops, live]
    rfl

/-! ### LINK-CONFIGURE and LINK-QUERY -/

theorem toNat_pack (hi lo : Byte) : (pack hi lo).toNat = 256 * hi.toNat + lo.toNat := by
  have := lo.isLt
  rw [pack, BitVec.toNat_append, ← Nat.shiftLeft_add_eq_or_of_lt (by omega), Nat.shiftLeft_eq]
  omega

/-- Two words in range give a configuration (R142, R143). -/
theorem LineConfig.ofWords_of_inRange {w1 w2 : Word} (divisor : w1 ≠ 0) (fraction : w2.toNat / 256 ≤ 31)
    (parity : w2.toNat % 4 ≠ 3) (unused : w2.toNat / 16 % 16 = 0) :
    ∃ cfg : LineConfig, LineConfig.ofWords w1 w2 = some cfg
      ∧ cfg.divisor = w1 ∧ cfg.fraction.toNat = w2.toNat / 256
      ∧ (cfg.parity = if w2.toNat % 4 = 0 then .none else if w2.toNat % 4 = 1 then .even else .odd)
      ∧ (cfg.stopBits = if w2.toNat / 4 % 2 = 1 then .two else .one)
      ∧ cfg.loopback = decide (w2.toNat / 8 % 2 = 1) := by
  have parityCode : w2.toNat % 256 % 4 = w2.toNat % 4 := by omega
  have bit (k : Nat) : w2.getLsbD k = decide (w2.toNat / 2 ^ k % 2 = 1) := Nat.testBit_eq_decide_div_mod_eq
  rw [LineConfig.ofWords, toNat_hiByte, toNat_loByte, if_neg divisor, if_neg (by omega), if_neg (by omega),
    if_neg (by omega), parityCode, bit, bit]
  refine ⟨_, rfl, rfl, ?_, rfl, by simp, rfl⟩
  rw [BitVec.toNat_setWidth, toNat_hiByte, Nat.mod_eq_of_lt (by omega)]

theorem LineConfig.ofWords_of_outOfRange {w1 w2 : Word}
    (bad : ¬ (w1 ≠ 0 ∧ w2.toNat / 256 ≤ 31 ∧ w2.toNat % 4 ≠ 3 ∧ w2.toNat / 16 % 16 = 0)) :
    LineConfig.ofWords w1 w2 = none := by
  rw [LineConfig.ofWords, toNat_hiByte, toNat_loByte]
  by_cases divisor : w1 = 0
  · rw [if_pos divisor]
  · rw [if_neg divisor]
    by_cases fraction : 31 < w2.toNat / 256
    · rw [if_pos fraction]
    · rw [if_neg fraction]
      by_cases parity : w2.toNat % 256 % 4 = 3
      · rw [if_pos parity]
      · rw [if_neg parity, if_pos]
        by_contra unused
        exact bad ⟨divisor, by omega, by omega, by omega⟩

/-- The rate is 18 432 000 / (16 × (I + F/32)) to the nearest baud, halves up (R143). -/
theorem LineConfig.baud_nearest (cfg : LineConfig) {d : Nat}
    (periods : 32 * cfg.divisor.toNat + cfg.fraction.toNat = d) (positive : 0 < d) :
    2 * cfg.baud * d ≤ 4 * 18432000 + d ∧ 4 * 18432000 < 2 * cfg.baud * d + d := by
  have rate : cfg.baud = (4 * 18432000 + d) / (2 * d) := by
    rw [LineConfig.baud, periods]
    rfl
  have below := Nat.div_mul_le_self (4 * 18432000 + d) (2 * d)
  have above := Nat.lt_div_mul_add (a := 4 * 18432000 + d) (b := 2 * d) (by omega)
  rw [← rate] at below above
  have product : cfg.baud * (2 * d) = 2 * cfg.baud * d := by ring
  omega

theorem wordOf_mod (n : Nat) : wordOf (n % 65536) = wordOf n := by
  apply BitVec.eq_of_toNat_eq
  simp [wordOf]

/-- The second configuration word is the sum of its fields (R142). -/
theorem LineConfig.word2_eq (cfg : LineConfig) :
    cfg.word2 =
      wordOf (256 * cfg.fraction.toNat
        + (if cfg.loopback = true then 8 else 0)
        + (match cfg.stopBits with
          | .one => 0
          | .two => 4)
        + (match cfg.parity with
          | .none => 0
          | .even => 1
          | .odd => 2)) := by
  obtain ⟨divisor, fraction, parity, stopBits, loopback⟩ := cfg
  have := fraction.isLt
  apply BitVec.eq_of_toNat_eq
  rw [LineConfig.word2, toNat_pack, wordOf, byteOf, BitVec.toNat_ofNat, BitVec.toNat_ofNat, BitVec.toNat_setWidth]
  cases parity <;> cases stopBits <;> cases loopback <;> simp [Parity.code] <;> omega

/-- The internal path as a new configuration comes to stand (R144, R149). -/
theorem pathAt_eq (before after : Bool) (path : List Byte) (n : Nat) :
    pathAt before after path n =
      if after = false then []
      else if before = true then path.drop (path.length - n)
      else List.replicate n 0xF8 := by
  cases after <;> rfl

/-- Settles O39. -/
theorem linkConfigureAndQuery : Obligations.LinkConfigureAndQuery := by
  refine ⟨fun x => by cases x <;> rfl, fun x => by cases x <;> rfl, fun s cmd rxd path begun => ?_⟩
  intro w1 w2 d inRange
  refine ⟨fun h => ⟨fun bad => ?_, fun l names => ⟨fun runs => ?_, fun stopped bad => ?_, fun stopped fits => ?_⟩⟩,
    fun h => ⟨fun bad => ?_, fun l names => ?_⟩⟩
  · change execLinkConfigure _ s = _
    rw [execLinkConfigure, State.completing_of_completes h, linkOf_of_bad bad]
    rfl
  · change execLinkConfigure _ s = _
    rw [execLinkConfigure, State.completing_of_completes h, names, linkOf_val]
    dsimp only
    rw [if_pos runs]
    rfl
  · change execLinkConfigure _ s = _
    rw [execLinkConfigure, State.completing_of_completes h, names, linkOf_val]
    dsimp only
    rw [if_neg (not_not.2 stopped), LineConfig.ofWords_of_outOfRange bad]
    rfl
  · obtain ⟨divisor, fraction, parity, unused⟩ := fits
    obtain ⟨cfg, ok, divisorIs, fractionIs, parityIs, stopBitsIs, loopbackIs⟩ :=
      LineConfig.ofWords_of_inRange divisor fraction parity unused
    have periods : 32 * cfg.divisor.toNat + cfg.fraction.toNat = d := by rw [divisorIs, fractionIs]
    have positive : 0 < d := by
      have : w1.toNat ≠ 0 := fun zero => divisor (BitVec.eq_of_toNat_eq zero)
      omega
    have nearest := LineConfig.baud_nearest cfg periods positive
    refine ⟨cfg, divisorIs, fractionIs, parityIs, stopBitsIs, loopbackIs, _, nearest.1, nearest.2, ?_⟩
    intro sending notBegun inside atMark
    change execLinkConfigure _ s = _
    rw [execLinkConfigure, State.completing_of_completes h, names, linkOf_val]
    dsimp only
    rw [if_neg (not_not.2 stopped), ok]
    dsimp only
    rw [State.complete_words (s := s) (by simp), wordOf_mod]
    have configured : (s.link l).configure cfg ⟨rxd, path, begun⟩ =
        if (s.link l).config = cfg then s.link l
        else
          { s.link l with
            config := cfg
            transmitter := sending
            receiver := if atMark then .ready else .waiting
            loopPath :=
              if cfg.loopback = false then []
              else if (s.link l).config.loopback = true then
                (s.link l).loopPath.drop ((s.link l).loopPath.length - notBegun)
              else List.replicate notBegun 0xF8 } := by
      have sends : (s.link l).transmitterAt begun = sending := by
        cases sends : (s.link l).transmitter <;> simp only [Link.transmitterAt, sending, sends]
      have begins : sending.notBegun (s.link l).cutDelimiters = notBegun := by
        simp only [notBegun]
        cases sending <;> rfl
      have insides : sending.inside = inside := by
        simp only [inside]
        cases sending <;> rfl
      have receiver : receiverConfigured ⟨rxd, path, begun⟩ cfg.loopback sending =
          if atMark then .ready else .waiting := by
        simp only [receiverConfigured, insides, atMark]
        cases cfg.loopback <;> cases inside <;> cases rxd <;> cases path <;> simp [receiverOf]
      rw [Link.configure, sends]
      dsimp only
      rw [begins, receiver, pathAt_eq]
    rw [State.onLink, configured]
    rfl
  · change execLinkQuery s = _
    rw [execLinkQuery, State.completing_of_completes h, linkOf_of_bad bad]
    rfl
  · change execLinkQuery s = _
    rw [execLinkQuery, State.completing_of_completes h, names, linkOf_val]
    dsimp only
    rw [linkReply, State.complete_words (s := s) rfl, writeWords_eight, LineConfig.word2_eq, byteOf_downCode]
    have state : byteOf (s.link l).state.code =
        match (s.link l).state with
        | .stopped => 0
        | .seeking => 1
        | .up => 2 := by
      cases (s.link l).state <;> rfl
    have sends : byteOf (flag (s.link l).onLine.isSome 1) = if (s.link l).onLine = none then 0 else 1 := by
      cases (s.link l).onLine <;> rfl
    rw [state, sends]
    rfl

/-! ### The start of a frame -/

/-- A frame starts on a link (R123, R139, R149). -/
theorem State.startFrame_stated (t : State) (l : LinkNo) (f : Frame) :
    t.startFrame l f =
      t.setLink l
        { t.link l with
          onLine := some f
          helloTimer := if (t.link l).state = .up then none else (t.link l).helloTimer
          transmitter :=
            if (t.link l).cutDelimiters = 0 then .sendingFrame (t.link l).config
            else (t.link l).transmitter
          loopPath :=
            if (t.link l).config.loopback = true then (t.link l).loopPath ++ lineCharacters f
            else (t.link l).loopPath } := by
  rw [State.startFrame, State.onLink]
  simp only [Link.isUp, decide_eq_true_eq]

/-- The first owed kind, in the order of R104. -/
theorem Owed.first_eq_find (o : Owed) :
    o.first = [.accept, .grant, .ask, .openRequest, .close, .closed].find? o.has := by
  have table (b : Bool) (x y : Option ControlKind) : (if b = true then x else y) = match b with
      | true => x
      | false => y := by
    cases b <;> rfl
  simp only [Owed.first, table]
  rfl

/-- The head of the control list sends the first kind it owes (R104, R105). -/
theorem State.startControl_eq {k : ControlKind} {rest : List CircuitNo} (present : s.record c = some r)
    (first : r.owed.first = some k) :
    s.startControl l c rest =
      ((s.setRecord c (some (Record.afterControl { r with owed := r.owed.put k false } s.settings.retryMs k))).setLink l
        { s.link l with controlList := if (r.owed.put k false).isEmpty then rest else rest ++ [c] }).startFrame l
        (r.controlFrame c (s.circuit c).generation k) := by
  have owed : (Record.afterControl { r with owed := r.owed.put k false } s.settings.retryMs k).owed =
      r.owed.put k false := by
    cases k with
    | close => simp only [Record.afterControl]; split <;> rfl
    | accept | grant | ask | openRequest | closed => rfl
  rw [State.startControl, present]
  dsimp only
  rw [first]
  dsimp only
  rw [owed]
  rfl

/-- A CLOSE of a CLOSING circuit starts the retry timer (R105). -/
theorem Record.afterControl_close_of_closing {n : Nat} {o : Owed} {x : CloseReason} (closing : r.phase = .closing x) :
    Record.afterControl { r with owed := o } n .close = { r with owed := o, retryTimer := some n } := by
  rw [Record.afterControl]
  dsimp only
  rw [closing]

/-- A CLOSE of an ENDED circuit does not (R105). -/
theorem Record.afterControl_close_of_ended (n : Nat) {o : Owed} {cause : EndCause} {detail : Option Byte}
    {discarded : Nat} (ended : r.phase = .ended cause detail discarded) :
    Record.afterControl { r with owed := o } n .close = { r with owed := o } := by
  rw [Record.afterControl]
  dsimp only
  rw [ended]

/-- The ask timer after the head of the transmit queue has been sent (R89, R108). -/
theorem Record.settleAsk_sent {n : Nat} {rest : List (List Byte)}
    (sends : r.phase.sendsData = true) (credit : r.creditLimit ≠ r.sent) :
    Record.settleAsk n r { r with txQueue := rest, nextSeq := r.nextSeq + 1, sent := r.sent + 1 } =
      { r with
        txQueue := rest
        nextSeq := r.nextSeq + 1
        sent := r.sent + 1
        askTimer := if rest ≠ [] ∧ r.creditLimit = r.sent + 1 then some n else none } := by
  have same (w v : Word) : w - v = 0#16 ↔ w = v := sub_eq_zero
  have before : ¬ r.blocked = true := by simp [Record.blocked, Record.credit, same, credit]
  have after : Record.blocked { r with txQueue := rest, nextSeq := r.nextSeq + 1, sent := r.sent + 1 } = true ↔
      rest ≠ [] ∧ r.creditLimit = r.sent + 1 := by
    simp [Record.blocked, Record.credit, same, sends]
  rw [Record.settleAsk, if_neg before]
  exact congrArg (fun timer => { r with
    txQueue := rest, nextSeq := r.nextSeq + 1, sent := r.sent + 1, askTimer := timer }) (if_congr after rfl rfl)

/-- Settles O37. -/
theorem frameStartsCarryAndChangeTheirSource : Obligations.FrameStartsCarryAndChangeTheirSource := by
  intro s l onLine
  have start (t : State) (f : Frame) : t.startFrame l f = onLine t f := State.startFrame_stated t l f
  refine ⟨start _ _, fun hdr reason rest => ⟨start _ _, start _ _, start _ _⟩, Owed.first_eq_find,
    fun c rest r p present peer => ?_, fun c rest r present first => ?_,
    fun c p r peer payload rest present peerIs queue sends credit => ?_⟩
  · intro hdr served
    have header : r.header c (s.circuit c).generation = hdr := by rw [Record.header, peer]; rfl
    refine ⟨fun first => ?_, fun first => ?_, fun first => ?_, fun x first closing => ?_, fun d n first phase => ?_,
      fun d n first phase => ?_, fun first => ?_⟩
    · rw [State.startControl_eq present first, start, Record.controlFrame, header]; rfl
    · rw [State.startControl_eq present first, start, Record.controlFrame, header]; rfl
    · rw [State.startControl_eq present first, start, Record.controlFrame, header]; rfl
    · rw [State.startControl_eq present first, start, Record.controlFrame, header,
        Record.afterControl_close_of_closing closing, Record.closeReason, closing]
      rfl
    · have reason : r.closeReason = 2 := by
        rw [Record.closeReason]
        rcases phase with phase | phase <;> rw [phase] <;> rfl
      have kept := phase.elim (Record.afterControl_close_of_ended (s.settings.retryMs) (o := r.owed.put .close false))
        (Record.afterControl_close_of_ended (s.settings.retryMs) (o := r.owed.put .close false))
      rw [State.startControl_eq present first, start, Record.controlFrame, header, reason, kept]
    · have reason : r.closeReason = 6 := by rw [Record.closeReason, phase]; rfl
      rw [State.startControl_eq present first, start, Record.controlFrame, header, reason,
        Record.afterControl_close_of_ended _ phase]
    · rw [State.startControl_eq present first, start, Record.controlFrame, header]; rfl
  · rw [State.startControl_eq present first, start]; rfl
  · intro sent t₁ t₂
    have header : r.header c (s.circuit c).generation =
        ⟨peer.circuit, peer.generation, byteOf c.val, (s.circuit c).generation⟩ := by
      rw [Record.header, peerIs]; rfl
    have settled : Record.settleAsk s.settings.askMs r
        { r with txQueue := rest, nextSeq := r.nextSeq + 1, sent := r.sent + 1 } = sent :=
      Record.settleAsk_sent sends credit
    have closes : (if decide (r.phase = .draining) && rest.isEmpty then t₁.beginClosing c else t₁) = t₂ := by
      have written : t₁.record c = some sent := by simp [t₁]
      rw [State.beginClosing, written]
      exact if_congr (by simp) rfl rfl
    rw [State.startData, present]
    dsimp only
    rw [queue]
    dsimp only
    rw [settled, header, ← start, ← closes]
    rfl

end Sys2Proof.Machine
end

section
/-! PROOFS. Passes over the table in rising circuit number (R99, R127, R52, R153): what one circuit's part in a
pass is, and what the whole pass is then. The ROOM rule (O38), a link end (O43) and the supersedes of an opening
call (O25) are passes. -/

namespace Sys2Proof.Machine
set_option Elab.async false

variable {s t u : State} {l : LinkNo} {c : CircuitNo} {r r' : Record}

/-! ### What a pass does to one circuit -/

/-- The part of one circuit in a pass: its record, the service whose active count it leaves, the cells it returns,
what becomes of its link's control list, and its notices. -/
structure CircuitEffect where
  record : Option Record
  uncounts : Byte → Bool
  cells : Nat
  control : List CircuitNo → List CircuitNo
  pending : CircuitPending
  joins : Bool

/-- A circuit that a pass leaves alone. -/
def State.unaffected (s : State) (c : CircuitNo) : CircuitEffect :=
  { record := s.record c, uncounts := fun _ => false, cells := 0, control := id
    pending := s.circuitNotices[c], joins := false }

/-- The part with other tables. -/
def State.withTables (s : State) (circuits : Vector Circuit 64) (services : List Service) (txFree : Nat)
    (links : Vector Link 4) (pending : Vector CircuitPending 64) (notices : List Source) : State :=
  { s with
    circuits := circuits, services := services, txFree := txFree, links := links, circuitNotices := pending
    noticeList := notices }

theorem State.withTables_withTables (circuits circuits' : Vector Circuit 64) (services services' : List Service)
    (txFree txFree' : Nat) (links links' : Vector Link 4) (pending pending' : Vector CircuitPending 64)
    (notices notices' : List Source) :
    (s.withTables circuits services txFree links pending notices).withTables circuits' services' txFree' links' pending'
        notices' =
      s.withTables circuits' services' txFree' links' pending' notices' := rfl

/-- The circuits after a pass over `cs`. -/
def State.sweptCircuits (s : State) (effect : CircuitNo → CircuitEffect) (cs : List CircuitNo) : Vector Circuit 64 :=
  Vector.ofFn fun c =>
    { generation := (s.circuit c).generation, record := if c ∈ cs then (effect c).record else s.record c }

def State.sweptPending (s : State) (effect : CircuitNo → CircuitEffect) (cs : List CircuitNo) :
    Vector CircuitPending 64 :=
  Vector.ofFn fun c => if c ∈ cs then (effect c).pending else s.circuitNotices[c]

def State.sweptLinks (s : State) (l : LinkNo) (effect : CircuitNo → CircuitEffect) (cs : List CircuitNo) :
    Vector Link 4 :=
  s.links.set l
    { s.link l with controlList := cs.foldl (fun xs c => (effect c).control xs) (s.link l).controlList }

def State.sweptServices (s : State) (effect : CircuitNo → CircuitEffect) (cs : List CircuitNo) : List Service :=
  s.services.map fun e => { e with active := e.active - cs.countP fun c => (effect c).uncounts e.number }

/-- The part after a pass over the circuits `cs`, in that order, of which those affected are on link `l`. -/
def State.sweptBy (s : State) (l : LinkNo) (effect : CircuitNo → CircuitEffect) (cs : List CircuitNo) : State :=
  s.withTables (s.sweptCircuits effect cs) (s.sweptServices effect cs)
    (s.txFree + (cs.map fun c => (effect c).cells).sum) (s.sweptLinks l effect cs) (s.sweptPending effect cs)
    (s.noticeList ++ (cs.filter fun c => (effect c).joins).map Source.circuit)

variable {effect : CircuitNo → CircuitEffect} {cs ds : List CircuitNo}

theorem State.sweptBy_eq (s : State) (l : LinkNo) (effect : CircuitNo → CircuitEffect) (cs : List CircuitNo) :
    s.sweptBy l effect cs =
      s.withTables (s.sweptCircuits effect cs) (s.sweptServices effect cs)
        (s.txFree + (cs.map fun c => (effect c).cells).sum) (s.sweptLinks l effect cs) (s.sweptPending effect cs)
        (s.noticeList ++ (cs.filter fun c => (effect c).joins).map Source.circuit) := rfl

theorem State.circuit_sweptBy (c : CircuitNo) :
    (s.sweptBy l effect cs).circuit c =
      { generation := (s.circuit c).generation, record := if c ∈ cs then (effect c).record else s.record c } := by
  change (s.sweptCircuits effect cs)[c] = _
  simp [State.sweptCircuits]

theorem State.record_sweptBy (c : CircuitNo) :
    (s.sweptBy l effect cs).record c = if c ∈ cs then (effect c).record else s.record c := by
  rw [State.record, State.circuit_sweptBy]

theorem State.circuitNotices_sweptBy (c : CircuitNo) :
    (s.sweptBy l effect cs).circuitNotices[c] = if c ∈ cs then (effect c).pending else s.circuitNotices[c] := by
  change (s.sweptPending effect cs)[c] = _
  simp [State.sweptPending]

theorem State.link_sweptBy_self :
    (s.sweptBy l effect cs).link l =
      { s.link l with controlList := cs.foldl (fun xs c => (effect c).control xs) (s.link l).controlList } := by
  change (s.sweptLinks l effect cs)[l] = _
  simp [State.sweptLinks]

theorem State.state_sweptBy (m : LinkNo) : ((s.sweptBy l effect cs).link m).state = (s.link m).state := by
  by_cases same : m = l
  · rw [same, State.link_sweptBy_self]
  · have other : l.val ≠ m.val := fun e => same (Fin.ext e.symm)
    change (s.sweptLinks l effect cs)[m].state = _
    simp [State.sweptLinks, other, State.link]

/-- Two parts of a pass follow one another. -/
theorem State.sweptBy_append :
    (s.sweptBy l effect cs).sweptBy l effect ds = s.sweptBy l effect (cs ++ ds) := by
  generalize swept : s.sweptBy l effect cs = t
  have circuits : t.sweptCircuits effect ds = s.sweptCircuits effect (cs ++ ds) := by
    refine congrArg Vector.ofFn (funext fun c => ?_)
    rw [← swept, State.circuit_sweptBy, State.record_sweptBy]
    by_cases later : c ∈ ds
    · simp [later]
    · simp [later]
  have pending : t.sweptPending effect ds = s.sweptPending effect (cs ++ ds) := by
    refine congrArg Vector.ofFn (funext fun c => ?_)
    rw [← swept, State.circuitNotices_sweptBy]
    by_cases later : c ∈ ds
    · simp [later]
    · simp [later]
  have links : t.sweptLinks l effect ds = s.sweptLinks l effect (cs ++ ds) := by
    have before : t.links = s.sweptLinks l effect cs := by rw [← swept]; rfl
    rw [State.sweptLinks, before, ← swept, State.link_sweptBy_self, State.sweptLinks, State.sweptLinks,
      Vector.set_set, List.foldl_append]
  have services : t.sweptServices effect ds = s.sweptServices effect (cs ++ ds) := by
    have before : t.services = s.sweptServices effect cs := by rw [← swept]; rfl
    rw [State.sweptServices, before, State.sweptServices, State.sweptServices, List.map_map]
    refine List.map_congr_left fun e _ => ?_
    simp [List.countP_append, Nat.sub_sub]
  have txFree : t.txFree = s.txFree + (cs.map fun c => (effect c).cells).sum := by rw [← swept]; rfl
  have notices : t.noticeList = s.noticeList ++ (cs.filter fun c => (effect c).joins).map Source.circuit := by
    rw [← swept]; rfl
  rw [State.sweptBy_eq t, State.sweptBy_eq s l effect (cs ++ ds), circuits, pending, links, services, txFree, notices,
    List.append_assoc, Nat.add_assoc, ← List.map_append, ← List.filter_append, ← List.sum_append, ← List.map_append,
    ← swept, State.sweptBy_eq, State.withTables_withTables]

theorem State.sweptBy_nil : s.sweptBy l effect [] = s := by
  have circuits : s.sweptCircuits effect [] = s.circuits :=
    Vector.ext fun k hk => by simp [State.sweptCircuits, State.circuit, State.record]
  have pending : s.sweptPending effect [] = s.circuitNotices :=
    Vector.ext fun k hk => by simp [State.sweptPending]
  have links : s.sweptLinks l effect [] = s.links := congrArg State.links (State.setLink_link s l)
  have services : s.sweptServices effect [] = s.services := by simp [State.sweptServices]
  rw [State.sweptBy, circuits, pending, links, services]
  simp [State.withTables]

/-- What a pass reads of a circuit: its record, its notices, and the state of the links. -/
structure State.AgreesAt (s t : State) (c : CircuitNo) : Prop where
  circuit : t.circuit c = s.circuit c
  pending : t.circuitNotices[c] = s.circuitNotices[c]
  state : ∀ m, (t.link m).state = (s.link m).state

theorem State.agreesAt_sweptBy (other : c ∉ cs) : s.AgreesAt (s.sweptBy l effect cs) c where
  circuit := by rw [State.circuit_sweptBy, if_neg other]; rfl
  pending := by rw [State.circuitNotices_sweptBy, if_neg other]
  state := State.state_sweptBy

/-- A pass of which each circuit has its part, whatever the circuits before it were made, is the whole of the
parts. -/
theorem State.foldl_eq_sweptBy {act : CircuitNo → State → State}
    (part : ∀ c t, s.AgreesAt t c → act c t = t.sweptBy l effect [c]) (distinct : cs.Nodup) :
    cs.foldl (fun t c => act c t) s = s.sweptBy l effect cs := by
  induction cs using List.reverseRecOn with
  | nil => rw [State.sweptBy_nil]; rfl
  | append_singleton cs c ih =>
    obtain ⟨before, -, apart⟩ := List.nodup_append.1 distinct
    rw [List.foldl_append, ih before, List.foldl_cons, List.foldl_nil, ← State.sweptBy_append]
    exact part c _ (State.agreesAt_sweptBy fun seen => apart c seen c (List.mem_singleton_self c) rfl)

theorem State.forCircuits_eq_sweptBy {act : CircuitNo → State → State}
    (part : ∀ c t, s.AgreesAt t c → act c t = t.sweptBy l effect [c]) :
    s.forCircuits act = s.sweptBy l effect allCircuits :=
  State.foldl_eq_sweptBy part (List.nodup_finRange 64)

/-- The part of one circuit in a pass. -/
theorem State.sweptBy_singleton :
    s.sweptBy l effect [c] =
      s.withTables (s.circuits.set c { generation := (s.circuit c).generation, record := (effect c).record })
        (s.services.map fun e => { e with active := e.active - if (effect c).uncounts e.number then 1 else 0 })
        (s.txFree + (effect c).cells)
        (s.links.set l { s.link l with controlList := (effect c).control (s.link l).controlList })
        (s.circuitNotices.set c (effect c).pending)
        (if (effect c).joins then s.noticeList ++ [.circuit c] else s.noticeList) := by
  have circuits : s.sweptCircuits effect [c] =
      s.circuits.set c { generation := (s.circuit c).generation, record := (effect c).record } :=
    Vector.ext fun k hk => by
      simp only [State.sweptCircuits, Vector.getElem_ofFn, Vector.getElem_set, List.mem_singleton]
      by_cases same : c.val = k
      · subst same; simp
      · have other : (⟨k, hk⟩ : CircuitNo) ≠ c := fun e => same (congrArg Fin.val e).symm
        rw [if_neg same, if_neg other]
        rfl
  have pending : s.sweptPending effect [c] = s.circuitNotices.set c (effect c).pending :=
    Vector.ext fun k hk => by
      simp only [State.sweptPending, Vector.getElem_ofFn, Vector.getElem_set, List.mem_singleton]
      by_cases same : c.val = k
      · subst same; simp
      · have other : (⟨k, hk⟩ : CircuitNo) ≠ c := fun e => same (congrArg Fin.val e).symm
        rw [if_neg same, if_neg other]
        rfl
  have services : s.sweptServices effect [c] =
      s.services.map fun e => { e with active := e.active - if (effect c).uncounts e.number then 1 else 0 } := by
    simp [State.sweptServices, List.countP_cons]
  have notices : s.noticeList ++ ([c].filter fun c => (effect c).joins).map Source.circuit =
      if (effect c).joins then s.noticeList ++ [.circuit c] else s.noticeList := by
    cases joins : (effect c).joins <;> simp [joins]
  rw [State.sweptBy, circuits, pending, services, notices, List.map_singleton, List.sum_singleton]
  rfl

/-- A circuit that is left alone. -/
theorem State.sweptBy_unaffected (same : effect c = s.unaffected c) : s.sweptBy l effect [c] = s := by
  have circuits : s.circuits.set c { generation := (s.circuit c).generation, record := s.record c } = s.circuits :=
    Vector.set_getElem_self _
  have links : s.links.set l { s.link l with controlList := id (s.link l).controlList } = s.links :=
    congrArg State.links (State.setLink_link s l)
  have pending : s.circuitNotices.set c s.circuitNotices[c] = s.circuitNotices := Vector.set_getElem_self _
  rw [State.sweptBy_singleton, same]
  simp only [State.unaffected]
  rw [circuits, links, pending]
  simp [State.withTables]

theorem State.SameOutside.eq (h : s.SameOutside t) :
    t = { s with
      circuits := t.circuits, services := t.services, reservationTotal := t.reservationTotal
      cellsHeld := t.cellsHeld, txFree := t.txFree, links := t.links, circuitNotices := t.circuitNotices
      linkNotices := t.linkNotices, noticeList := t.noticeList } := by
  obtain ⟨outside, held, powering⟩ := h
  cases s
  cases t
  simp only [State.outside, Outside.mk.injEq] at outside
  simp_all

/-- The change of one record is the part of its circuit in a pass. -/
theorem State.Rewrites.swept {k : Option CircuitNotice} (h : s.Rewrites t c r r' k)
    (record : (effect c).record = some r')
    (uncounts : ∀ n, (effect c).uncounts n =
      (r.phase.live && !r'.phase.live && decide (r.direction = .incoming ∧ r.service = n)))
    (cells : (effect c).cells + r'.txQueue.length = r.txQueue.length)
    (held : r'.rxQueue.length = r.rxQueue.length)
    (links : t.links = s.links.set l { s.link l with controlList := (effect c).control (s.link l).controlList })
    (pending : (effect c).pending = (s.notify c k).circuitNotices[c])
    (joins : (effect c).joins = (k.isSome && s.circuitNotices[c].isEmpty)) :
    t = s.sweptBy l effect [c] := by
  have circuits : t.circuits =
      s.circuits.set c { generation := (s.circuit c).generation, record := (effect c).record } :=
    Vector.ext fun k hk => by
      have same : t.circuit ⟨k, hk⟩ =
          ⟨(s.circuit ⟨k, hk⟩).generation, if (⟨k, hk⟩ : CircuitNo) = c then some r' else s.record ⟨k, hk⟩⟩ := by
        rw [← h.generation, ← h.record]
        rfl
      refine same.trans ?_
      rw [Vector.getElem_set, record]
      by_cases this : c.val = k
      · subst this; simp
      · have other : (⟨k, hk⟩ : CircuitNo) ≠ c := fun e => this (congrArg Fin.val e).symm
        rw [if_neg this, if_neg other]
        rfl
  have services : t.services =
      s.services.map fun e => { e with active := e.active - if (effect c).uncounts e.number then 1 else 0 } := by
    rw [h.services]
    simp only [uncounts]
    cases ends : r.phase.live && !r'.phase.live with
    | false => simp
    | true =>
      rw [if_pos rfl, State.uncount_services rfl]
      by_cases incoming : r.direction = .incoming
      · rw [if_pos incoming]
        refine List.map_congr_left fun e _ => ?_
        by_cases number : e.number = r.service
        · simp [number, incoming]
        · simp [number, Ne.symm number]
      · simp [incoming]
  have txFree : t.txFree = s.txFree + (effect c).cells := by have := h.txFree; omega
  have pendings : t.circuitNotices = s.circuitNotices.set c (effect c).pending := by
    rw [h.circuitNotices, pending]
    cases k with
    | none => exact (Vector.set_getElem_self _).symm
    | some k => simp [State.notify, State.postCircuit]
  have notices : t.noticeList = if (effect c).joins then s.noticeList ++ [.circuit c] else s.noticeList := by
    rw [h.noticeList, joins]
    cases k <;> rfl
  have cellsHeld : t.cellsHeld = s.cellsHeld := by rw [h.cellsHeld, held]; omega
  rw [State.sweptBy_singleton, ← circuits, ← services, ← txFree, ← links, ← pendings, ← notices, h.outside.eq, cellsHeld,
    h.reservationTotal, h.linkNotices]
  rfl

theorem State.AgreesAt.record (h : s.AgreesAt t c) : t.record c = s.record c := congrArg Circuit.record h.circuit

theorem State.AgreesAt.unaffected (h : s.AgreesAt t c) : t.unaffected c = s.unaffected c := by
  rw [State.unaffected, State.unaffected, h.record, h.pending]

/-- A pass that no control list is part of leaves the links. -/
theorem State.sweptLinks_of_id (still : ∀ c, (effect c).control = id) : s.sweptLinks l effect cs = s.links := by
  have lists (xs : List CircuitNo) : cs.foldl (fun xs c => (effect c).control xs) xs = xs := by
    simp only [still, id]
    induction cs with
    | nil => rfl
    | cons c cs ih => exact ih
  rw [State.sweptLinks, lists]
  exact congrArg State.links (State.setLink_link s l)

theorem State.sweptServices_of_none (none : ∀ c n, (effect c).uncounts n = false) :
    s.sweptServices effect cs = s.services := by
  simp [State.sweptServices, none]

/-! ### The ROOM rule -/

/-- Whether a circuit wants room and has it (R99). -/
def State.wantsRoom (s : State) (c : CircuitNo) : Bool :=
  (s.record c).any fun r => r.roomWanted && decide (r.txQueue.length < r.depth)

/-- The part of a circuit in the ROOM rule (R99). -/
def State.roomEffect (s : State) (c : CircuitNo) : CircuitEffect :=
  { s.unaffected c with
    record := (s.record c).map fun r => if s.wantsRoom c = true then { r with roomWanted := false } else r
    pending := if s.wantsRoom c = true then s.circuitNotices[c].add .room else s.circuitNotices[c]
    joins := s.wantsRoom c && s.circuitNotices[c].isEmpty }

theorem State.roomEffect_of_unwanted (unwanted : s.wantsRoom c = false) : s.roomEffect c = s.unaffected c := by
  simp [State.roomEffect, State.unaffected, unwanted]

theorem State.roomNotice_part (agrees : s.AgreesAt t c) : t.roomNotice c = t.sweptBy l s.roomEffect [c] := by
  cases wants : s.wantsRoom c with
  | false =>
    rw [State.sweptBy_unaffected ((State.roomEffect_of_unwanted wants).trans agrees.unaffected.symm), State.roomNotice]
    cases present : t.record c with
    | none => rfl
    | some r =>
      rw [State.wantsRoom, ← agrees.record, present] at wants
      exact if_neg (by simpa using wants)
  | true =>
    cases present : t.record c with
    | none => simp [State.wantsRoom, ← agrees.record, present] at wants
    | some r =>
      have wanted := wants
      rw [State.wantsRoom, ← agrees.record, present] at wanted
      have rewrites : t.Rewrites ((t.setRecord c (some { r with roomWanted := false })).postCircuit c .room) c r
          { r with roomWanted := false } (some .room) :=
        (State.Rewrites.setRecord present).post .room
      rw [State.roomNotice, present]
      refine (if_pos wanted).trans (rewrites.swept ?_ ?_ (Nat.zero_add _) rfl ?_ ?_ ?_)
      · simp [State.roomEffect, ← agrees.record, present, wants]
      · simp [State.roomEffect, State.unaffected]
      · exact (congrArg State.links (State.setLink_link t l)).symm
      · simp [State.roomEffect, wants, State.notify, State.postCircuit, agrees.pending]
      · simp [State.roomEffect, wants, agrees.pending]

theorem State.roomNotices_eq (s : State) (l : LinkNo) : s.roomNotices = s.sweptBy l s.roomEffect allCircuits :=
  State.forCircuits_eq_sweptBy fun _ _ agrees => State.roomNotice_part agrees

/-- Settles O38. -/
theorem roomRuleOverTheTable : Obligations.RoomRuleOverTheTable := by
  refine ⟨fun s => ?_, fun before after l => rfl⟩
  intro wants t
  have swept : t = s.sweptBy 0 s.roomEffect allCircuits := State.roomNotices_eq s 0
  have every (c : CircuitNo) : c ∈ allCircuits := List.mem_finRange c
  refine ⟨?_, fun c => ?_, fun c => ?_, ?_⟩
  · rw [swept, State.sweptBy_eq, State.sweptLinks_of_id fun _ => rfl, State.sweptServices_of_none fun _ _ => rfl]
    simp [State.withTables, State.roomEffect, State.unaffected]
  · rw [swept, State.circuit_sweptBy, if_pos (every c)]
    rfl
  · rw [swept, State.circuitNotices_sweptBy, if_pos (every c)]
    rfl
  · rw [swept]
    rfl

end Sys2Proof.Machine
end

section
/-! PROOFS. A link end as a pass over the table (O43), and the opening of a call with the circuits it supersedes
(O25). -/

namespace Sys2Proof.Machine
set_option Elab.async false

variable {s t u : State} {l : LinkNo} {c : CircuitNo} {r r' : Record}

/-- Which links the change of one record touches: its own, in its control list (R135). -/
theorem State.Rewrites.links {k : Option CircuitNotice} (h : s.Rewrites t c r r' k) :
    t.links = s.links.set r.link { s.link r.link with controlList := (t.link r.link).controlList } := by
  refine Vector.ext fun m hm => ?_
  rw [Vector.getElem_set]
  by_cases own : r.link.val = m
  · subst own
    rw [if_pos rfl]
    exact h.link r.link
  · rw [if_neg own]
    exact h.otherLink ⟨m, hm⟩ fun e => own (congrArg Fin.val e).symm

/-! ### A link end -/

/-- Whether a circuit is live on a link. -/
def State.liveOnLink (s : State) (l : LinkNo) (c : CircuitNo) : Bool :=
  (s.record c).any fun r => decide (r.link = l) && r.phase.live

/-- The part of a circuit in a link end (R127). -/
def State.endEffect (s : State) (l : LinkNo) (cause : EndCause) (c : CircuitNo) : CircuitEffect :=
  { record := (s.record c).map fun r => if r.link = l then r.atLinkEnd cause else r
    uncounts := fun n => (s.record c).any fun r =>
      decide (r.link = l) && r.phase.live && decide (r.direction = .incoming ∧ r.service = n)
    cells := if s.liveOnLink l c = true then ((s.record c).map fun r => r.txQueue.length).getD 0 else 0
    control := if (s.record c).any (fun r => decide (r.link = l)) = true then fun xs => xs.filter (· != c) else id
    pending := if s.liveOnLink l c = true then s.circuitNotices[c].add .ended else s.circuitNotices[c]
    joins := s.liveOnLink l c && s.circuitNotices[c].isEmpty }

theorem State.endEffect_congr (agrees : s.AgreesAt t c) (cause : EndCause) :
    t.endEffect l cause c = s.endEffect l cause c := by
  unfold State.endEffect State.liveOnLink
  rw [agrees.record, agrees.pending]

/-- A circuit of an ending link is off the control list (R127, R135). -/
theorem State.controlList_endOn (before : s.record c = some r) (cause : EndCause) :
    ((s.endOn r.link cause c).link r.link).controlList = (s.link r.link).controlList.filter (· != c) := by
  cases live : r.phase.live with
  | false =>
    rw [State.endOn_of_ended before live, State.link_putLessOwed, if_pos ⟨rfl, rfl⟩]
  | true =>
    rw [State.endOn_of_live before live, State.link_putLessOwed, if_pos ⟨rfl, rfl⟩,
      State.link_endCircuit s c cause none r.link before]
    split
    · simp
    · rfl

theorem Record.live_atLinkEnd (r : Record) (cause : EndCause) : (r.atLinkEnd cause).phase.live = false := by
  unfold Record.atLinkEnd
  split
  · rfl
  · rename_i ended
    exact Bool.eq_false_iff.2 ended

theorem State.endOn_part (cause : EndCause) : s.endOn l cause c = s.sweptBy l (s.endEffect l cause) [c] := by
  cases present : s.record c with
  | none =>
    rw [State.endOn_of_none present, State.sweptBy_unaffected]
    simp [State.endEffect, State.unaffected, State.liveOnLink, present]
  | some r =>
    by_cases on : r.link = l
    · subst on
      have rewrites := State.Rewrites.endOn present cause
      refine rewrites.swept ?_ ?_ ?_ ?_ ?_ ?_ ?_
      · simp [State.endEffect, present]
      · intro n
        simp [State.endEffect, present, Record.live_atLinkEnd]
      · cases live : r.phase.live <;>
          simp [State.endEffect, State.liveOnLink, present, live, Record.atLinkEnd, Record.atEnd]
      · cases live : r.phase.live <;> simp [Record.atLinkEnd, Record.atEnd, live]
      · rw [rewrites.links, State.controlList_endOn present]
        simp [State.endEffect, present]
      · cases live : r.phase.live <;>
          simp [State.endEffect, State.liveOnLink, present, live, State.notify, State.postCircuit]
      · cases live : r.phase.live <;> simp [State.endEffect, State.liveOnLink, present, live]
    · rw [State.endOn_of_ne present on, State.sweptBy_unaffected]
      simp [State.endEffect, State.unaffected, State.liveOnLink, present, on]

theorem State.endCircuitsOf_swept (s : State) (l : LinkNo) (cause : EndCause) :
    s.endCircuitsOf l cause = s.sweptBy l (s.endEffect l cause) allCircuits := by
  refine State.forCircuits_eq_sweptBy (act := fun c t => t.endOn l cause c) fun c t agrees => ?_
  rw [State.endOn_part, State.sweptBy_singleton, State.sweptBy_singleton, State.endEffect_congr agrees]

/-- The link's own part of a link end, after the circuits of the link have ended (R127). -/
theorem State.linkDown_withTables (circuits : Vector Circuit 64) (services : List Service) (txFree : Nat)
    (xs : List CircuitNo) (pending : Vector CircuitPending 64) (notices : List Source) (cause : DownCause) :
    ((s.withTables circuits services txFree (s.links.set l { s.link l with controlList := xs }) pending notices).onLink l
        fun x => { x with
          controlList := [], answerList := [], deadTimer := none, lastDown := some cause }).postLink l .down =
      { s with
        circuits := circuits
        services := services
        txFree := txFree
        links := s.links.set l
          { s.link l with controlList := [], answerList := [], deadTimer := none, lastDown := some cause }
        circuitNotices := pending
        linkNotices := s.linkNotices.set l { s.linkNotices[l] with down := true }
        noticeList := notices ++ if s.linkNotices[l].isEmpty = true then [Source.link l] else [] } := by
  have link : (s.withTables circuits services txFree (s.links.set l { s.link l with controlList := xs }) pending
      notices).link l = { s.link l with controlList := xs } := State.link_setLink_self s l _
  rw [State.onLink, link, State.setLink, State.postLink]
  cases empty : s.linkNotices[l.val].isEmpty <;> simp [State.withTables, empty, LinkPending.add]

/-- Settles O43. -/
theorem linkEndAndDeadTimerExpiry : Obligations.LinkEndAndDeadTimerExpiry := by
  refine ⟨fun s l cause => ?_, fun s l running up on => ?_⟩
  · intro t liveHere
    have every (c : CircuitNo) : c ∈ allCircuits := List.mem_finRange c
    generalize swept : s.endCircuitsOf l cause.endCause = v
    have ended : v = s.sweptBy l (s.endEffect l cause.endCause) allCircuits := by
      rw [← swept, State.endCircuitsOf_swept]
    have down : t = (v.onLink l fun x =>
        { x with controlList := [], answerList := [], deadTimer := none, lastDown := some cause }).postLink l .down := by
      rw [← swept]
      rfl
    have circuit (c : CircuitNo) : t.circuit c =
        { generation := (s.circuit c).generation
          record := (s.record c).map fun r => if r.link = l then r.atLinkEnd cause.endCause else r } := by
      rw [down]
      change v.circuit c = _
      rw [ended, State.circuit_sweptBy, if_pos (every c)]
      rfl
    have record (c : CircuitNo) :
        t.record c = (s.record c).map fun r => if r.link = l then r.atLinkEnd cause.endCause else r := by
      rw [State.record, circuit]
    refine ⟨?_, fun c => ?_, fun c => ?_, fun c free => ?_, fun c r present other => ?_, fun c r present on live => ?_,
      fun c r present on dead => ?_⟩
    · have circuits : t.circuits = v.circuits := by rw [down]; rfl
      have pending : t.circuitNotices = v.circuitNotices := by rw [down]; rfl
      rw [circuits, pending, down]
      rw [ended, State.sweptBy_eq, State.sweptLinks, State.linkDown_withTables]
      rfl
    · rw [down]
      change v.circuitNotices[c] = _
      rw [ended, State.circuitNotices_sweptBy, if_pos (every c)]
      rfl
    · rw [circuit]
    · rw [record, free]
      rfl
    · rw [record, present, Option.map_some, if_neg other]
    · rw [record, present, Option.map_some, if_pos on, Record.atLinkEnd, if_pos live]
      cases cause <;> rfl
    · rw [record, present, Option.map_some, if_pos on, Record.atLinkEnd, if_neg (by simp [dead])]
  · change execDeadTimerExpiry l s = _
    rw [execDeadTimerExpiry, State.unlessHeld_of_running running, if_pos ⟨up, Option.isSome_iff_ne_none.2 on⟩,
      State.loseLink_eq]

end Sys2Proof.Machine
end

section
/-! PROOFS. The opening of a call with the circuits it supersedes, as a pass over the table (O25). -/

namespace Sys2Proof.Machine
set_option Elab.async false

variable {s t u : State} {l : LinkNo} {c d : CircuitNo} {r r' q : Record} {peerCircuit : Byte}

/-- Whether the opening of circuit `c` supersedes circuit `d`, asked of the records of which `only` holds (R52). -/
def State.supersedes (s : State) (l : LinkNo) (c : CircuitNo) (peerCircuit : Byte) (d : CircuitNo)
    (only : Record → Bool) : Bool :=
  decide (d ≠ c) && (s.record d).any fun q =>
    decide (q.link = l) && q.phase.counted && (q.peer.any fun x => decide (x.circuit = peerCircuit)) && only q

/-- The part of a circuit in the opening of another (R52). -/
def State.supersedeEffect (s : State) (l : LinkNo) (c : CircuitNo) (peerCircuit : Byte) (d : CircuitNo) :
    CircuitEffect :=
  let superseded := s.supersedes l c peerCircuit d
  { record := (s.record d).map fun q =>
      if superseded (fun _ => true) = true then
        Record.atEnd { q with owed := q.owed.put .close true } .superseded none
      else q
    uncounts := fun n => superseded fun q => decide (q.direction = .incoming ∧ q.service = n)
    cells := if superseded (fun _ => true) = true then ((s.record d).map fun q => q.txQueue.length).getD 0 else 0
    control := fun xs =>
      if (superseded fun q => q.owed.isEmpty && (s.link l).isUp) = true then xs ++ [d] else xs
    pending := if superseded (fun _ => true) = true then s.circuitNotices[d].add .ended else s.circuitNotices[d]
    joins := (superseded fun _ => true) && s.circuitNotices[d].isEmpty }

theorem State.supersedeEffect_congr (agrees : s.AgreesAt t d) :
    t.supersedeEffect l c peerCircuit d = s.supersedeEffect l c peerCircuit d := by
  unfold State.supersedeEffect State.supersedes Link.isUp
  rw [agrees.record, agrees.pending, agrees.state]

/-- The control list after a circuit has been superseded: it joins where it owed nothing and its link is UP (R8,
R135). -/
theorem State.controlList_supersede (before : s.record d = some q) :
    ((s.supersede d).link q.link).controlList =
      if (q.owed.isEmpty && (s.link q.link).isUp) = true then (s.link q.link).controlList ++ [d]
      else (s.link q.link).controlList := by
  have owing : (s.owe d .close).record d = some { q with owed := q.owed.put .close true } := by
    rw [State.record_owe, if_pos rfl, before]
    rfl
  have stays : (q.owed.put .close true).afterEnd.isEmpty = false := by simp [Owed.put, Owed.afterEnd, Owed.isEmpty]
  rw [State.supersede, State.link_endCircuit _ d .superseded none q.link owing, if_neg (by simp [stays]),
    State.link_owe s d .close q.link before]
  by_cases joins : (q.owed.isEmpty && (s.link q.link).isUp) = true
  · rw [if_pos joins, if_pos ⟨rfl, by simpa using joins⟩]
  · rw [if_neg joins, if_neg fun h => joins (by simpa using h.2)]

theorem Record.holdsPeer_eq (q : Record) (l : LinkNo) (peerCircuit : Byte) :
    q.holdsPeer l peerCircuit =
      (decide (q.link = l) && q.phase.counted && q.peer.any fun x => decide (x.circuit = peerCircuit)) := by
  rw [Record.holdsPeer]
  cases q.peer <;> rfl

/-- What the opening of circuit `c` does to circuit `d` (R52). -/
def State.supersedeIf (s : State) (l : LinkNo) (c : CircuitNo) (peerCircuit : Byte) (d : CircuitNo) : State :=
  match s.record d with
  | none => s
  | some q => if decide (d ≠ c) && q.holdsPeer l peerCircuit then s.supersede d else s

theorem State.supersedeIf_part :
    s.supersedeIf l c peerCircuit d = s.sweptBy l (s.supersedeEffect l c peerCircuit) [d] := by
  unfold State.supersedeIf
  cases present : s.record d with
  | none =>
    rw [State.sweptBy_unaffected]
    simp [State.supersedeEffect, State.supersedes, State.unaffected, present]
    rfl
  | some q =>
    have asks (only : Record → Bool) : s.supersedes l c peerCircuit d only =
        (decide (d ≠ c) && q.holdsPeer l peerCircuit && only q) := by
      simp [State.supersedes, present, Record.holdsPeer_eq, Bool.and_assoc]
    cases holds : decide (d ≠ c) && q.holdsPeer l peerCircuit with
    | false =>
      rw [State.sweptBy_unaffected]
      · exact if_neg (by rw [holds]; nofun)
      · simp only [State.supersedeEffect, asks, holds, State.unaffected, present]
        simp
        rfl
    | true =>
      obtain ⟨rfl, counted, -⟩ := Record.counted_of_holdsPeer (Bool.and_eq_true _ _ ▸ holds).2
      have live := Phase.live_of_counted counted
      have rewrites := State.Rewrites.oweEnd present live .close .superseded none
      refine (if_pos holds).trans (rewrites.swept ?_ ?_ ?_ ?_ ?_ ?_ ?_)
      · simp only [State.supersedeEffect, asks, holds, present]
        rfl
      · intro n
        simp only [State.supersedeEffect, asks, holds, live]
        rfl
      · simp only [State.supersedeEffect, asks, holds, present]
        rfl
      · rfl
      · rw [rewrites.links]
        have control := State.controlList_supersede present
        rw [State.supersede] at control
        rw [control]
        simp only [State.supersedeEffect, asks, holds, Bool.true_and]
      · simp only [State.supersedeEffect, asks, holds]
        simp [State.notify, State.postCircuit]
      · simp only [State.supersedeEffect, asks, holds]
        rfl

theorem State.supersedeOthers_swept :
    s.supersedeOthers l c peerCircuit = s.sweptBy l (s.supersedeEffect l c peerCircuit) allCircuits := by
  refine State.forCircuits_eq_sweptBy (act := fun d t => t.supersedeIf l c peerCircuit d) fun d t agrees => ?_
  rw [State.supersedeIf_part, State.sweptBy_singleton, State.sweptBy_singleton, State.supersedeEffect_congr agrees]

theorem foldl_append_filter (p : CircuitNo → Bool) (cs xs : List CircuitNo) :
    cs.foldl (fun xs d => if p d = true then xs ++ [d] else xs) xs = xs ++ cs.filter p := by
  induction cs generalizing xs with
  | nil => simp
  | cons d cs ih =>
    rw [List.foldl_cons, ih, List.filter_cons]
    cases p d <;> simp

/-- The circuits that join the control list of their link as they are superseded (R135). -/
theorem State.filter_supersedes (s : State) (l : LinkNo) (c : CircuitNo) (peerCircuit : Byte) :
    (allCircuits.filter fun d => s.supersedes l c peerCircuit d fun q => q.owed.isEmpty && (s.link l).isUp) =
      if (s.link l).state = .up then
        allCircuits.filter fun d => s.supersedes l c peerCircuit d fun q => q.owed.isEmpty
      else [] := by
  by_cases up : (s.link l).state = .up
  · rw [if_pos up]
    simp [Link.isUp, up]
  · rw [if_neg up]
    simp [Link.isUp, up, State.supersedes]

/-- A record is written that owes less or the same, field by field (R135). -/
theorem State.putLessOwed_withTables (on : r'.link = l) :
    s.putLessOwed c r' =
      s.withTables (s.circuits.set c { generation := (s.circuit c).generation, record := some r' }) s.services s.txFree
        (s.links.set l
          { s.link l with
            controlList :=
              if r'.owed.isEmpty = true then (s.link l).controlList.filter fun d => d ≠ c
              else (s.link l).controlList })
        s.circuitNotices s.noticeList := by
  subst on
  rw [State.putLessOwed]
  dsimp only
  cases empty : r'.owed.isEmpty with
  | true =>
    rw [if_pos rfl, if_pos rfl, filter_ne]
    rfl
  | false =>
    rw [if_neg nofun, if_neg nofun]
    have links : s.links.set r'.link { s.link r'.link with controlList := (s.link r'.link).controlList } = s.links :=
      congrArg State.links (State.setLink_link s r'.link)
    rw [links]
    rfl

/-- The record of a circuit whose call has been opened (R50, R89). -/
theorem Record.opened_of_calling (calling : r.phase = .calling) (n : Nat) (peer : Peer) (limit : Word) :
    r.opened n peer limit =
      { r with
        phase := .opened
        peer := some peer
        creditLimit := limit
        retryTimer := none
        retryCount := 0
        owed := r.owed.put .openRequest false
        askTimer := if r.txQueue ≠ [] ∧ limit = r.sent then some n else none } := by
  have same (w v : Word) : w - v = 0#16 ↔ w = v := sub_eq_zero
  have before : ¬ r.blocked = true := by simp [Record.blocked, calling, Phase.sendsData]
  have after : Record.blocked
      { r with
        phase := .opened, peer := some peer, creditLimit := limit, retryTimer := none, retryCount := 0
        owed := r.owed.put .openRequest false } = true ↔ r.txQueue ≠ [] ∧ limit = r.sent := by
    simp [Record.blocked, Record.credit, same, Phase.sendsData]
  rw [Record.opened, Record.settleAsk, if_neg before]
  exact congrArg (fun timer => { r with
    phase := .opened, peer := some peer, creditLimit := limit, retryTimer := none, retryCount := 0
    owed := r.owed.put .openRequest false, askTimer := timer }) (if_congr after rfl rfl)

/-- Settles O25. -/
theorem openingTakesThePeerAndSupersedes : Obligations.OpeningTakesThePeerAndSupersedes := by
  intro s c r peer limit present calling blocked superseded left own
  have opened := Record.opened_of_calling calling s.settings.askMs peer limit
  generalize made : r.opened s.settings.askMs peer limit = r' at opened
  have on : r'.link = r.link := by rw [opened]
  have owes : r'.owed = left := by rw [opened]
  have written := State.putLessOwed_withTables (s := s) (c := c) on
  rw [owes] at written
  generalize put : s.putLessOwed c r' = v at written
  have every (d : CircuitNo) : d ∈ allCircuits := List.mem_finRange d
  have records (d : CircuitNo) : v.record d = if d = c then some r' else s.record d := by
    rw [← put, State.record_putLessOwed]
  have asks (d : CircuitNo) (only : Record → Bool) :
      v.supersedes r.link c peer.circuit d only = superseded d only := by
    by_cases self : d = c
    · simp [State.supersedes, superseded, self]
    · simp [State.supersedes, superseded, records, self]
  have pending (d : CircuitNo) : v.circuitNotices[d] = s.circuitNotices[d] := by rw [written]; rfl
  have swept := State.supersedeOthers_swept (s := v) (l := r.link) (c := c) (peerCircuit := peer.circuit)
  generalize taken : v.supersedeOthers r.link c peer.circuit = u at swept
  have recordIs (d : CircuitNo) : u.record d =
      (v.record d).map fun q =>
        if superseded d (fun _ => true) = true then
          Record.atEnd { q with owed := q.owed.put .close true } .superseded none
        else q := by
    rw [swept, State.record_sweptBy, if_pos (every d), ← asks]
    rfl
  refine ⟨u, ?_, ?_, fun d => ?_, ?_, fun d q other before => ?_, fun d free => ?_, fun d => ?_⟩
  · rw [State.openCall_eq present, made, put, taken]
  · have links : v.sweptLinks r.link (v.supersedeEffect r.link c peer.circuit) allCircuits =
        s.links.set r.link
          { s.link r.link with
            controlList :=
              (if left.isEmpty = true then own.filter fun d => d ≠ c else own)
                ++ if (s.link r.link).state = .up then
                    allCircuits.filter fun d => superseded d fun q => q.owed.isEmpty
                  else [] } := by
      have link : v.link r.link = { s.link r.link with
          controlList := if left.isEmpty = true then own.filter fun d => d ≠ c else own } := by
        rw [written]
        exact State.link_setLink_self s r.link _
      have table : v.links = s.links.set r.link { s.link r.link with
          controlList := if left.isEmpty = true then own.filter fun d => d ≠ c else own } := by
        rw [written]
        rfl
      rw [State.sweptLinks, table, Vector.set_set]
      simp only [State.supersedeEffect]
      rw [foldl_append_filter, State.filter_supersedes, link]
      simp only [asks]
    have cells (d : CircuitNo) :
        (if superseded d (fun _ => true) = true then ((v.record d).map fun q => q.txQueue.length).getD 0 else 0) =
          if superseded d (fun _ => true) = true then ((s.record d).map fun q => q.txQueue.length).getD 0 else 0 := by
      by_cases self : d = c
      · simp [superseded, self]
      · rw [records, if_neg self]
    have circuits : u.circuits = v.sweptCircuits (v.supersedeEffect r.link c peer.circuit) allCircuits := by
      rw [swept]
      rfl
    have notices : u.circuitNotices = v.sweptPending (v.supersedeEffect r.link c peer.circuit) allCircuits := by
      rw [swept]
      rfl
    rw [circuits, notices, swept, State.sweptBy_eq, links]
    generalize v.sweptCircuits _ _ = circuits
    generalize v.sweptPending _ _ = notices
    simp only [State.sweptServices, State.supersedeEffect, asks, pending, cells]
    rw [written, State.withTables_withTables]
    rfl
  · rw [swept, State.circuitNotices_sweptBy, if_pos (every d), ← asks, ← pending]
    rfl
  · rw [recordIs, records, if_pos rfl, opened]
    simp only [superseded, ne_eq, not_true, decide_false, Bool.false_and, Bool.false_eq_true, if_false,
      Option.map_some]
    rfl
  · rw [recordIs, records, if_neg other, before, Option.map_some]
    refine congrArg some (if_congr ?_ rfl rfl)
    cases held : q.peer <;> simp [superseded, other, before, held, and_assoc]
  · have other : d ≠ c := fun same => by rw [same, present] at free; cases free
    rw [recordIs, records, if_neg other, free]
    rfl
  · rw [swept, State.circuit_sweptBy, ← put, State.generation_putLessOwed]

end Sys2Proof.Machine
end

section
/-! PROOFS. The DATA choice (R107): the most urgent class with an eligible circuit, in round robin (O36). -/

namespace Sys2Proof.Machine
set_option Elab.async false

variable {s t : State} {l : LinkNo} {c d : CircuitNo} {r : Record} {p q : Fin 4}

/-- Where a circuit stands in the round robin of a class that served `last` (R107). -/
def turnAfter (last c : CircuitNo) : Nat := (c.val + 63 - last.val) % 64

theorem turnAfter_lt (last c : CircuitNo) : turnAfter last c < 64 := Nat.mod_lt _ (by decide)

theorem length_roundRobin (last : CircuitNo) : (roundRobin last).length = 64 := by
  simp [roundRobin, allCircuits]

theorem getElem_roundRobin (last : CircuitNo) (k : Nat) (hk : k < (roundRobin last).length) :
    (roundRobin last)[k] = last + 1 + ⟨k, by rwa [length_roundRobin] at hk⟩ := by
  simp [roundRobin, allCircuits]

theorem turnAfter_getElem (last : CircuitNo) (k : Nat) (hk : k < (roundRobin last).length) :
    turnAfter last (roundRobin last)[k] = k := by
  rw [getElem_roundRobin, turnAfter, Fin.val_add, Fin.val_add, show (1 : CircuitNo).val = 1 from rfl]
  rw [length_roundRobin] at hk
  have := last.isLt
  dsimp only
  omega

theorem getElem_turnAfter (last c : CircuitNo) :
    (roundRobin last)[turnAfter last c]'(by rw [length_roundRobin]; exact turnAfter_lt last c) = c := by
  rw [getElem_roundRobin]
  apply Fin.ext
  rw [Fin.val_add, Fin.val_add, show (1 : CircuitNo).val = 1 from rfl]
  have := last.isLt
  have := c.isLt
  simp only [turnAfter]
  omega

/-- The first of a round robin is the one whose turn comes first. -/
theorem find_roundRobin (last : CircuitNo) (fits : CircuitNo → Bool) (c : CircuitNo) :
    (roundRobin last).find? fits = some c ↔
      fits c = true ∧ ∀ d, fits d = true → turnAfter last c ≤ turnAfter last d := by
  rw [List.find?_eq_some_iff_getElem]
  refine and_congr_right fun _ => ⟨?_, fun first => ?_⟩
  · rintro ⟨k, hk, rfl, earlier⟩ d fitsD
    rw [turnAfter_getElem]
    by_contra before
    have missed := earlier (turnAfter last d) (by omega)
    rw [getElem_turnAfter, fitsD] at missed
    cases missed
  · refine ⟨turnAfter last c, by rw [length_roundRobin]; exact turnAfter_lt last c, getElem_turnAfter last c,
      fun j hj => ?_⟩
    have short := turnAfter_lt last c
    have hk : j < (roundRobin last).length := by rw [length_roundRobin]; omega
    cases fitsJ : fits (roundRobin last)[j] with
    | false => rfl
    | true =>
      have := first _ fitsJ
      rw [turnAfter_getElem] at this
      omega

/-- Whether a class may serve a circuit (R107). -/
def State.servable (s : State) (l : LinkNo) (p : Fin 4) (c : CircuitNo) : Bool :=
  match s.record c with
  | none => false
  | some r => r.eligible l && decide (r.priority = p)

theorem State.servable_iff : s.servable l p c = true ↔
    ∃ r ∈ s.record c, r.link = l ∧ (r.phase = .opened ∨ r.phase = .draining) ∧ r.txQueue ≠ []
      ∧ (1 ≤ (r.creditLimit - r.sent).toNat ∧ (r.creditLimit - r.sent).toNat ≤ 32767) ∧ r.priority = p := by
  unfold State.servable
  cases s.record c with
  | none => simp
  | some r =>
    have sends : r.phase.sendsData = true ↔ r.phase = .opened ∨ r.phase = .draining := by
      cases r.phase <;> simp [Phase.sendsData]
    have forwards : forward r.credit = true ↔
        1 ≤ (r.creditLimit - r.sent).toNat ∧ (r.creditLimit - r.sent).toNat ≤ 32767 := inRange_iff _ _ _
    simp [Record.eligible, sends, forwards, and_assoc]

theorem State.classChoice_iff : s.classChoice l p = some c ↔
    s.servable l p c = true ∧
      ∀ d, s.servable l p d = true → turnAfter (s.link l).lastServed[p] c ≤ turnAfter (s.link l).lastServed[p] d :=
  find_roundRobin _ (s.servable l p) c

theorem State.classChoice_none_iff : s.classChoice l p = none ↔ ∀ d, s.servable l p d = false := by
  have none : s.classChoice l p = none ↔ ∀ d ∈ roundRobin (s.link l).lastServed[p], ¬ s.servable l p d = true :=
    List.find?_eq_none
  simp only [none, mem_roundRobin, true_implies, Bool.not_eq_true]

/-- The first class in rising order that serves a circuit is the one chosen (R107). -/
theorem State.dataChoice_iff : s.dataChoice l = some (p, c) ↔
    s.classChoice l p = some c ∧ ∀ q, q < p → s.classChoice l q = none := by
  have chosen {p : Fin 4} {c : CircuitNo} (h : s.dataChoice l = some (p, c)) :
      s.classChoice l p = some c ∧ ∀ q, q < p → s.classChoice l q = none := by
    obtain ⟨earlier, p', later, order, found, missed⟩ := List.findSome?_eq_some_iff.1 h
    obtain ⟨c', choice, same⟩ := Option.map_eq_some_iff.1 found
    obtain ⟨rfl, rfl⟩ := Prod.mk.inj same
    refine ⟨choice, fun q less => ?_⟩
    have rising : (earlier ++ p' :: later).Pairwise (· < ·) := order ▸ List.pairwise_lt_finRange 4
    have listed : q ∈ earlier ++ p' :: later := order ▸ List.mem_finRange q
    rcases List.mem_append.1 listed with before | after
    · exact Option.map_eq_none_iff.1 (missed q before)
    · rcases List.mem_cons.1 after with same | after
      · exact absurd same (Fin.ne_of_lt less)
      · have := (List.pairwise_cons.1 (List.pairwise_append.1 rising).2.1).1 q after
        exact absurd this (lt_asymm less)
  refine ⟨chosen, fun ⟨choice, missed⟩ => ?_⟩
  cases data : s.dataChoice l with
  | none =>
    have := List.findSome?_eq_none_iff.1 data p (List.mem_finRange p)
    rw [choice] at this
    cases this
  | some served =>
    obtain ⟨p', c'⟩ := served
    obtain ⟨choice', missed'⟩ := chosen data
    rcases lt_trichotomy p p' with less | rfl | more
    · rw [missed' p less] at choice; cases choice
    · rw [choice] at choice'; cases choice'; rfl
    · rw [missed p' more] at choice'; cases choice'

theorem State.lastServed_beginClosing (s : State) (l : LinkNo) (c : CircuitNo) :
    ((s.beginClosing c).link l).lastServed = (s.link l).lastServed := by
  unfold State.beginClosing
  cases s.record c with
  | none => rfl
  | some r =>
    dsimp only
    rw [State.link_owe _ c .close l (State.record_setRecord_self _ _ _)]
    split <;> rfl

/-- A class that has served a circuit remembers it (R107, R108). -/
theorem State.lastServed_startData {payload : List Byte} {rest : List (List Byte)} (present : s.record c = some r)
    (queue : r.txQueue = payload :: rest) :
    ((s.startData l p c).link l).lastServed = (s.link l).lastServed.set p c := by
  rw [State.startData, present]
  dsimp only
  rw [queue]
  dsimp only
  rw [State.startFrame_eq, State.link_onLink_self, Link.started]
  dsimp only
  have served (a : Option Record) :
      (((s.setRecord c a).onLink l fun x => { x with lastServed := x.lastServed.set p c }).link l).lastServed =
        (s.link l).lastServed.set p c := by
    rw [State.link_onLink_self]
    rfl
  split
  · rw [State.lastServed_beginClosing, served]
  · rw [served]

/-- Settles O36. -/
theorem dataChoiceByClassAndRoundRobin : Obligations.DataChoiceByClassAndRoundRobin := by
  intro s l eligible distance
  have servable (c : CircuitNo) (p : Fin 4) : s.servable l p c = true ↔ eligible c p := State.servable_iff
  refine ⟨fun p c => ?_, ?_, fun p c chosen => ?_⟩
  · rw [State.dataChoice_iff, State.classChoice_iff]
    simp only [State.classChoice_none_iff, ← Bool.not_eq_true, servable]
    constructor
    · rintro ⟨⟨fits, first⟩, urgent⟩
      exact ⟨fits, urgent, first⟩
    · rintro ⟨fits, urgent, first⟩
      exact ⟨⟨fits, first⟩, urgent⟩
  · have noClass : s.dataChoice l = none ↔ ∀ p, s.classChoice l p = none := by
      simp [State.dataChoice, List.findSome?_eq_none_iff]
    simp only [noClass, State.classChoice_none_iff, ← Bool.not_eq_true, servable]
    exact forall_comm
  · obtain ⟨r, present, -, -, queued, -⟩ := (servable c p).1 (State.classChoice_iff.1 (State.dataChoice_iff.1 chosen).1).1
    obtain ⟨payload, rest, queue⟩ := List.exists_cons_of_ne_nil queued
    exact State.lastServed_startData present queue

end Sys2Proof.Machine
end

section
/-! PROOFS. What every command answers (R2, R167, R170): a result that its rule names, and where the result is none of
OK, FULL and IN-USE nothing but its own end (O7, O8). -/

namespace Sys2Proof.Machine
set_option Elab.async false

variable {s t : State} {name : CommandName} {p : Reply × State} {cmd : Command} {row : State → StepOutcome}

/-! ### Answers -/

/-- The enables, COLLIDE, the hold and the queue: what no command's effect changes. -/
structure State.SameHost (s t : State) : Prop where
  noticeEnable : t.noticeEnable = s.noticeEnable
  completionEnable : t.completionEnable = s.completionEnable
  collide : t.collide = s.collide
  held : t.held = s.held
  pending : t.pending = s.pending

theorem State.SameOutside.sameHost (h : s.SameOutside t) : s.SameHost t where
  noticeEnable := congrArg Outside.noticeEnable h.outside
  completionEnable := congrArg Outside.completionEnable h.outside
  collide := congrArg Outside.collide h.outside
  held := h.held
  pending := congrArg Outside.pending h.outside

/-- An effect of a command with the reply it is completed with, as its rule allows (R167, R170). -/
structure State.Answers (s : State) (name : CommandName) (p : Reply × State) : Prop where
  listed : p.1.result ∈ resultsOf name
  host : s.SameHost p.2
  fails : p.1.result ≠ .ok → p.1.result ≠ .full → p.1.result ≠ .inUse → p = (.bare p.1.result, s)

/-- A command that fails changes nothing (R167). -/
theorem State.Answers.bare {result : ResultCode} (listed : result ∈ resultsOf name) :
    s.Answers name (.bare result, s) where
  listed := listed
  host := (State.SameOutside.refl s).sameHost
  fails _ _ _ := rfl

/-- OK, FULL and IN-USE alone come with a change of the part or with return words. -/
theorem State.Answers.of_result {reply : Reply} {result : ResultCode} (is : reply.result = result)
    (listed : result ∈ resultsOf name) (exempt : result = .ok ∨ result = .full ∨ result = .inUse)
    (same : s.SameOutside t) : s.Answers name (reply, t) where
  listed := by rw [is]; exact listed
  host := same.sameHost
  fails notOk notFull notInUse := by
    rw [← is] at exempt
    rcases exempt with ok | full | inUse
    · exact absurd ok notOk
    · exact absurd full notFull
    · exact absurd inUse notInUse

/-- A command that does its work answers OK. -/
theorem State.Answers.acts {reply : Reply} (ok : reply.result = .ok) (listed : .ok ∈ resultsOf name)
    (same : s.SameOutside t) : s.Answers name (reply, t) := .of_result ok listed (.inl rfl) same

/-! ### The rows of commands -/

/-- A row that completes the commands of one name, each with an answer that its rule allows. -/
def IsCommand (name : CommandName) (row : State → StepOutcome) : Prop :=
  ∃ effect : Command → State → Reply × State,
    (∀ s, row s = s.completing name effect) ∧ (∀ cmd s, State.Answers s name (effect cmd s))
    ∧ (namesCircuit name = true → ∃ f : Command → State → CircuitNo → Record → Reply × State,
      ∀ cmd s, effect cmd s = s.forCircuit cmd (f cmd s))

/-- The rows of the commands that name no circuit. -/
theorem IsCommand.of_other {effect : Command → State → Reply × State} (rows : ∀ s, row s = s.completing name effect)
    (other : namesCircuit name = false) (answers : ∀ cmd s, State.Answers s name (effect cmd s)) : IsCommand name row :=
  ⟨effect, rows, answers, fun names => by rw [other] at names; cases names⟩

/-- The rows of the commands that name a circuit: the check of R2 comes first. -/
theorem IsCommand.of_circuit {f : Command → State → CircuitNo → Record → Reply × State}
    (rows : ∀ s, row s = s.completing name fun cmd s => s.forCircuit cmd (f cmd s))
    (missing : .noSuchCircuit ∈ resultsOf name)
    (answers : ∀ cmd (s : State) c r, s.record c = some r → s.Answers name (f cmd s c r)) : IsCommand name row := by
  refine ⟨_, rows, fun cmd s => ?_, fun _ => ⟨f, fun _ _ => rfl⟩⟩
  unfold State.forCircuit State.named
  cases circuitOf cmd.args[0].toNat with
  | none => exact .bare missing
  | some c =>
    cases present : s.record c with
    | none => simpa [present] using State.Answers.bare missing
    | some r => simpa [present] using answers cmd s c r present

theorem isCommand_partConfigure : IsCommand .partConfigure execPartConfigure := by
  refine .of_other (fun _ => rfl) rfl fun cmd s => ?_
  cases Settings.ofArgs cmd.args with
  | none => exact .bare (by decide)
  | some settings => exact ⟨List.mem_cons_self, ⟨rfl, rfl, rfl, rfl, rfl⟩, fun notOk => absurd rfl notOk⟩

theorem isCommand_partQuery : IsCommand .partQuery execPartQuery :=
  .of_other (fun _ => rfl) rfl fun _ s => .acts rfl (by decide) (.refl s)

theorem isCommand_poolQuery : IsCommand .poolQuery execPoolQuery :=
  .of_other (fun _ => rfl) rfl fun _ s => .acts rfl (by decide) (.refl s)

theorem isCommand_badCommand : IsCommand .bad execBadCommand :=
  .of_other (fun _ => rfl) rfl fun _ _ => .bare (by decide)

theorem isCommand_clear : IsCommand .clear execClear :=
  .of_other (fun _ => rfl) rfl fun _ s =>
    .acts rfl (by decide) ((State.SameOutside.cleared s).trans (.boundaries _))

/-! #### Links -/

theorem isCommand_linkConfigure (lines : LinesNow) : IsCommand .linkConfigure (execLinkConfigure lines) := by
  refine .of_other (fun _ => rfl) rfl fun cmd s => ?_
  cases linkOf cmd.args[0].toNat with
  | none => exact .bare (by decide)
  | some l =>
    dsimp only
    split
    · exact .bare (by decide)
    · split
      · exact .bare (by decide)
      · exact .acts rfl (by decide) ⟨rfl, rfl, rfl⟩

theorem State.SameOutside.endLink (s : State) (l : LinkNo) {cause : DownCause} : s.SameOutside (s.endLink l cause) :=
  .of_frame

theorem isCommand_linkStart : IsCommand .linkStart execLinkStart := by
  refine .of_other (fun _ => rfl) rfl fun cmd s => ?_
  cases linkOf cmd.args[0].toNat with
  | none => exact .bare (by decide)
  | some l =>
    dsimp only
    split
    · exact .bare (by decide)
    · exact .acts rfl (by decide) .of_frame

theorem State.SameOutside.stopLink (s : State) (l : LinkNo) : s.SameOutside (s.stopLink l) := by
  rw [State.stopLink_eq]
  exact ⟨rfl, rfl, rfl⟩

theorem isCommand_linkStop : IsCommand .linkStop execLinkStop := by
  refine .of_other (fun _ => rfl) rfl fun cmd s => ?_
  cases linkOf cmd.args[0].toNat with
  | none => exact .bare (by decide)
  | some l =>
    dsimp only
    split
    · exact .bare (by decide)
    · exact .acts rfl (by decide) ((State.SameOutside.stopLink s l).trans (.finishClaim _ _ _))
    · exact .acts rfl (by decide)
        (((State.SameOutside.endLink s l).trans (.stopLink _ l)).trans (.finishClaim _ _ _))

theorem isCommand_linkQuery : IsCommand .linkQuery execLinkQuery := by
  refine .of_other (fun _ => rfl) rfl fun cmd s => ?_
  cases linkOf cmd.args[0].toNat with
  | none => exact .bare (by decide)
  | some l => exact .acts rfl (by decide) (.refl s)

/-! #### Services -/

theorem isCommand_serviceRegister : IsCommand .serviceRegister execServiceRegister := by
  refine .of_other (fun _ => rfl) rfl fun cmd s => ?_
  cases Service.ofArgs cmd.args with
  | none => exact .bare (by decide)
  | some e =>
    dsimp only
    split
    · exact .bare (by decide)
    · split
      · exact .bare (by decide)
      · exact .acts rfl (by decide) ⟨rfl, rfl, rfl⟩

theorem isCommand_serviceAmend : IsCommand .serviceAmend execServiceAmend := by
  refine .of_other (fun _ => rfl) rfl fun cmd s => ?_
  split
  · exact .bare (by decide)
  · split
    · exact .bare (by decide)
    · split
      · exact .bare (by decide)
      · exact .acts rfl (by decide) ⟨rfl, rfl, rfl⟩

theorem isCommand_serviceQuery : IsCommand .serviceQuery execServiceQuery := by
  refine .of_other (fun _ => rfl) rfl fun cmd s => ?_
  split
  · exact .bare (by decide)
  · split
    · exact .bare (by decide)
    · exact .acts rfl (by decide) (.refl s)

theorem State.SameOutside.forceWithdraw (s : State) (number : Byte) : s.SameOutside (s.forceWithdraw number).2 := by
  have moves : MovesAny s (s.forCircuits fun c u => u.withdrawCircuit number c) :=
    State.forCircuits_moves (fun c u => u.withdrawCircuit_moves number c) s
  have withdrawn : s.SameOutside (s.forCircuits fun c u => u.withdrawCircuit number c) :=
    State.sameOutside_of_row (fun ⟨_, move⟩ => move.sameOutside) moves
  have returned := withdrawn.trans (.removeService s _ number)
  rw [State.forceWithdraw]
  dsimp only
  generalize State.afterReturns s _ = t at returned
  exact returned.trans (.boundaries t)

theorem isCommand_serviceWithdraw : IsCommand .serviceWithdraw execServiceWithdraw := by
  refine .of_other (fun _ => rfl) rfl fun cmd s => ?_
  split
  · exact .bare (by decide)
  · split
    · exact .bare (by decide)
    · split
      · rename_i e found forced
        have same := State.SameOutside.forceWithdraw s e.number
        have ok : (s.forceWithdraw e.number).1.result = .ok := by rw [State.forceWithdraw]
        generalize s.forceWithdraw e.number = p at same ok
        exact .acts ok (by decide) same
      · split
        · exact .of_result (result := .inUse) rfl (by decide) (.inr (.inr rfl)) (.refl s)
        · exact .acts rfl (by decide) ⟨rfl, rfl, rfl⟩

/-! #### Circuits -/

theorem State.Answers.declineOffer {c : CircuitNo} {r : Record} (listed : .ok ∈ resultsOf name) :
    s.Answers name (s.declineOffer c r) := .acts rfl listed .of_frame

theorem isCommand_circuitCall : IsCommand .circuitCall execCircuitCall := by
  refine .of_other (fun _ => rfl) rfl fun cmd s => ?_
  cases CallArgs.ofArgs cmd.args with
  | none => exact .bare (by decide)
  | some a =>
    dsimp only
    split
    · exact .bare (by decide)
    · split
      · exact .bare (by decide)
      · split
        · exact .bare (by decide)
        · exact .acts rfl (by decide) .of_frame

theorem isCommand_circuitAnswer : IsCommand .circuitAnswer execCircuitAnswer := by
  refine .of_circuit (fun _ => rfl) (by decide) fun cmd s c r present => ?_
  split
  · exact .bare (by decide)
  · split
    · exact .bare (by decide)
    · exact .acts rfl (by decide) .of_frame

theorem isCommand_circuitRefuse : IsCommand .circuitRefuse execCircuitRefuse := by
  refine .of_circuit (fun _ => rfl) (by decide) fun cmd s c r present => ?_
  split
  · exact .bare (by decide)
  · exact .declineOffer (by decide)

theorem isCommand_circuitClose : IsCommand .circuitClose execCircuitClose := by
  refine .of_circuit (fun _ => rfl) (by decide) fun cmd s c r present => ?_
  split
  · exact .bare (by decide)
  · split
    · exact .acts rfl (by decide) .of_frame
    · exact .acts rfl (by decide) .of_frame

theorem isCommand_circuitAbort : IsCommand .circuitAbort execCircuitAbort := by
  refine .of_circuit (fun _ => rfl) (by decide) fun cmd s c r present => ?_
  dsimp only
  cases r.phase with
  | ended => exact .bare (by decide)
  | offered => exact .declineOffer (by decide)
  | calling | opened | draining | closing => exact .acts rfl (by decide) .of_frame

theorem isCommand_circuitRelease : IsCommand .circuitRelease execCircuitRelease := by
  refine .of_circuit (fun _ => rfl) (by decide) fun cmd s c r present => ?_
  split
  · exact .bare (by decide)
  · exact .acts rfl (by decide) .of_frame

theorem isCommand_circuitQuery : IsCommand .circuitQuery execCircuitQuery :=
  .of_circuit (fun _ => rfl) (by decide) fun _ s _ _ _ => .acts rfl (by decide) (.refl s)

theorem isCommand_circuitAmend : IsCommand .circuitAmend execCircuitAmend := by
  refine .of_circuit (fun _ => rfl) (by decide) fun cmd s c r present => ?_
  split
  · exact .bare (by decide)
  · split
    · exact .bare (by decide)
    · split
      · exact .bare (by decide)
      · refine .acts rfl (by decide) (.trans ?_ (.finishClaim _ _ _))
        split <;> exact .of_frame

theorem isCommand_circuitFind : IsCommand .circuitFind execCircuitFind := by
  refine .of_other (fun _ => rfl) rfl fun cmd s => ?_
  dsimp only
  split
  · exact .bare (by decide)
  · split
    · exact .bare (by decide)
    · exact .acts rfl (by decide) (.refl s)

/-! #### Payloads and notices -/

theorem isCommand_send : IsCommand .send execSend := by
  refine .of_circuit (fun _ => rfl) (by decide) fun cmd s c r present => ?_
  dsimp only
  split
  · exact .bare (by decide)
  · split
    · exact .bare (by decide)
    · split
      · exact .of_result (result := .full) rfl (by decide) (.inr (.inl rfl)) ⟨rfl, rfl, rfl⟩
      · refine .acts rfl (by decide) (.trans ?_ (.finishClaim _ _ _))
        exact ⟨rfl, rfl, rfl⟩

theorem isCommand_receive : IsCommand .receive execReceive := by
  refine .of_circuit (fun _ => rfl) (by decide) fun cmd s c r present => ?_
  split
  · exact .bare (by decide)
  · cases r.rxQueue with
    | nil => exact .bare (by decide)
    | cons item rest =>
      refine .acts rfl (by decide) (.trans ?_ (.finishClaim _ _ _))
      dsimp only
      split <;> exact .of_frame

theorem isCommand_nextNotice : IsCommand .nextNotice execNextNotice := by
  refine .of_other (fun _ => rfl) rfl fun cmd s => ?_
  cases s.noticeList with
  | nil => exact .bare (by decide)
  | cons source rest =>
    cases source with
    | circuit | link => exact .acts rfl (by decide) ⟨rfl, rfl, rfl⟩

/-- Every row that completes a command. -/
theorem isCommand_of_commandName {i : Instr} (h : commandName i = some name) : IsCommand name (exec i) := by
  cases i
  all_goals cases h
  case partConfigure => exact isCommand_partConfigure
  case partQuery => exact isCommand_partQuery
  case clear => exact isCommand_clear
  case linkConfigure lines => exact isCommand_linkConfigure lines
  case linkStart => exact isCommand_linkStart
  case linkStop => exact isCommand_linkStop
  case linkQuery => exact isCommand_linkQuery
  case serviceRegister => exact isCommand_serviceRegister
  case serviceAmend => exact isCommand_serviceAmend
  case serviceWithdraw => exact isCommand_serviceWithdraw
  case serviceQuery => exact isCommand_serviceQuery
  case circuitCall => exact isCommand_circuitCall
  case circuitAnswer => exact isCommand_circuitAnswer
  case circuitRefuse => exact isCommand_circuitRefuse
  case circuitClose => exact isCommand_circuitClose
  case circuitAbort => exact isCommand_circuitAbort
  case circuitRelease => exact isCommand_circuitRelease
  case circuitQuery => exact isCommand_circuitQuery
  case circuitAmend => exact isCommand_circuitAmend
  case circuitFind => exact isCommand_circuitFind
  case send => exact isCommand_send
  case receive => exact isCommand_receive
  case nextNotice => exact isCommand_nextNotice
  case poolQuery => exact isCommand_poolQuery
  case badCommand => exact isCommand_badCommand

/-- The completion of a command in progress, with an answer that its rule allows (R167). -/
theorem exec_of_commandName {i : Instr} (h : commandName i = some name) (progress : s.completes name cmd) :
    ∃ p : Reply × State, exec i s = .next (p.2.complete cmd p.1) ∧ s.Answers name p := by
  obtain ⟨effect, rows, answers, -⟩ := isCommand_of_commandName h
  exact ⟨effect cmd s, (rows s).trans (State.completing_of_completes progress _), answers cmd s⟩

/-- A command that names no circuit that is not FREE (R2). -/
theorem State.forCircuit_of_missing {f : CircuitNo → Record → Reply × State}
    (missing : 63 < cmd.args[0].toNat ∨ ∃ c : CircuitNo, cmd.args[0].toNat = c.val ∧ s.record c = none) :
    s.forCircuit cmd f = (.bare .noSuchCircuit, s) := by
  have none : s.named cmd.args[0] = none := by
    rw [State.named]
    rcases missing with above | ⟨c, number, free⟩
    · rw [circuitOf, dif_neg (by omega)]
    · rw [number, circuitOf_val]
      simp [free]
  rw [State.forCircuit, none]

theorem loByte_pack (hi lo : Byte) : loByte (pack hi lo) = lo := by
  apply BitVec.eq_of_toNat_eq
  rw [toNat_loByte, toNat_pack]
  have := lo.isLt
  omega

/-- Settles O7. -/
theorem failingCommandsChangeNothing : Obligations.FailingCommandsChangeNothing := by
  refine ⟨fun i name s t cmd h progress next notOk notFull notInUse => ?_, fun i name s cmd h names progress missing => ?_⟩
  · obtain ⟨⟨reply, u⟩, row, answers⟩ := exec_of_commandName h progress
    cases next.symm.trans row
    have code : loByte (State.complete u cmd reply).word0 = reply.result.code := loByte_pack _ _
    rw [code] at notOk notFull notInUse
    have bare := answers.fails (fun is => notOk (by rw [is]; rfl)) (fun is => notFull (by rw [is]; rfl))
      (fun is => notInUse (by rw [is]; rfl))
    rw [code]
    obtain ⟨replyIs, rfl⟩ := Prod.mk.inj bare
    dsimp only at replyIs
    rw [replyIs]
    rfl
  · obtain ⟨effect, rows, -, named⟩ := isCommand_of_commandName h
    obtain ⟨f, check⟩ := named names
    rw [rows, State.completing_of_completes progress, check, State.forCircuit_of_missing missing]
    rfl

/-- Settles O8. -/
theorem everyCommandCompletesWithANamedResult : Obligations.EveryCommandCompletesWithANamedResult := by
  intro i name s cmd h progress
  obtain ⟨⟨reply, u⟩, row, answers⟩ := exec_of_commandName h progress
  exact ⟨_, row, ⟨_, answers.listed, rfl⟩, rfl, rfl, answers.host.noticeEnable, answers.host.completionEnable,
    answers.host.collide, answers.host.held.trans progress.1, answers.host.pending⟩

end Sys2Proof.Machine
end

section
/-! PROOFS. The characters of a line (O46): sample periods, the levels that are sent, the samples that are taken, and
how a character is judged. -/

namespace Sys2Proof.Machine
set_option Elab.async false

variable {cfg : LineConfig} {b : Byte} {p : Parity} {c : CharacterSamples}

/-! ### Sample periods -/

/-- The fraction accumulated over `n` sample periods passes one more unit at each longer one (R140). -/
theorem LineConfig.accumulated (cfg : LineConfig) (n : Nat) :
    (n + 1) * cfg.fraction.toNat / 32 = n * cfg.fraction.toNat / 32 + if cfg.longPeriod n = true then 1 else 0 := by
  have small := cfg.fraction.isLt
  have product : (n + 1) * cfg.fraction.toNat = n * cfg.fraction.toNat + cfg.fraction.toNat := Nat.succ_mul _ _
  rw [LineConfig.longPeriod, product]
  by_cases passes : n * cfg.fraction.toNat / 32 < (n * cfg.fraction.toNat + cfg.fraction.toNat) / 32
  · rw [decide_eq_true passes, if_pos rfl]; omega
  · rw [decide_eq_false passes, if_neg nofun]; omega

theorem LineConfig.countP_longPeriod (cfg : LineConfig) (n : Nat) :
    (List.range n).countP cfg.longPeriod = n * cfg.fraction.toNat / 32 := by
  induction n with
  | zero => simp
  | succ n ih => rw [List.range_succ, List.countP_append, ih, List.countP_singleton, LineConfig.accumulated]

theorem LineConfig.sum_samplePeriod (cfg : LineConfig) (n : Nat) :
    ((List.range n).map cfg.samplePeriod).sum = n * cfg.divisor.toNat + n * cfg.fraction.toNat / 32 := by
  induction n with
  | zero => simp
  | succ n ih =>
    rw [List.range_succ, List.map_append, List.sum_append, ih, List.map_singleton, List.sum_singleton,
      LineConfig.samplePeriod, LineConfig.accumulated, Nat.succ_mul]
    omega

/-! ### The levels of a character -/

/-- The first nine bits of a character are its start bit and its data bits; a parity bit and stop bits follow
(R139). -/
theorem LineConfig.characterLevels_eq (cfg : LineConfig) (b : Byte) :
    cfg.characterLevels b =
      (.space :: dataLevels b) ++ (cfg.parity.levels b ++ List.replicate cfg.stopBits.bits .mark) := by
  rw [LineConfig.characterLevels, List.append_assoc]

theorem LineConfig.length_characterLevels (cfg : LineConfig) (b : Byte) :
    (cfg.characterLevels b).length = cfg.characterBits := by
  rw [LineConfig.characterLevels_eq, LineConfig.characterBits]
  simp
  omega

theorem LineConfig.getElem?_data (cfg : LineConfig) (b : Byte) {k : Nat} (hk : k < 8) :
    (cfg.characterLevels b)[1 + k]? = some (bitLevel (b.getLsbD k)) := by
  rw [LineConfig.characterLevels_eq, List.getElem?_append_left (by simp; omega), Nat.add_comm,
    List.getElem?_cons_succ]
  simp [dataLevels, hk]

theorem LineConfig.getElem?_parity (cfg : LineConfig) (b : Byte) :
    (cfg.characterLevels b)[9]? = (cfg.parity.levels b ++ List.replicate cfg.stopBits.bits .mark)[0]? := by
  rw [LineConfig.characterLevels_eq, List.getElem?_append_right (by simp)]
  simp

/-- After the parity bit come the stop bits, at mark (R139). -/
theorem LineConfig.getElem?_stop (cfg : LineConfig) (b : Byte) {k : Nat} (after : 9 + cfg.parity.bits ≤ k)
    (within : k < cfg.characterBits) : (cfg.characterLevels b)[k]? = some .mark := by
  rw [LineConfig.characterBits] at within
  rw [LineConfig.characterLevels_eq, List.getElem?_append_right (by simp; omega), List.getElem?_append_right (by simp; omega),
    List.getElem?_replicate, if_pos]
  simp
  omega

theorem Parity.bits_eq (p : Parity) : p.bits = if p = .none then 0 else 1 := by cases p <;> rfl

/-- A parity bit that makes the marks even (R139). -/
theorem even_marks (n : Nat) : (n + if bitLevel (decide (n % 2 = 1)) = .mark then 1 else 0) % 2 = 0 := by
  by_cases odd : n % 2 = 1
  · simp only [odd, decide_true, bitLevel, if_true]
    omega
  · simp only [odd, decide_false, bitLevel, Bool.false_eq_true, if_false, reduceCtorEq]
    omega

/-- A parity bit that makes the marks odd (R139). -/
theorem odd_marks (n : Nat) : (n + if bitLevel (!decide (n % 2 = 1)) = .mark then 1 else 0) % 2 = 1 := by
  by_cases odd : n % 2 = 1
  · simp only [odd, decide_true, bitLevel, Bool.not_true, Bool.false_eq_true, if_false, reduceCtorEq]
    omega
  · simp only [odd, decide_false, bitLevel, Bool.not_false, if_true]
    omega

/-- The marks among the data and parity bits are even, or odd, as the parity is (R139). -/
theorem LineConfig.count_mark (cfg : LineConfig) (b : Byte) {x : LineLevel} (parity : cfg.parity.levels b = [x]) :
    ((cfg.characterLevels b).take 10).count .mark = (dataLevels b).count .mark + if x = .mark then 1 else 0 := by
  have first : (cfg.characterLevels b).take 10 = (.space :: dataLevels b) ++ [x] := by
    rw [LineConfig.characterLevels_eq, parity, ← List.append_assoc, List.take_left' (by simp)]
  rw [first]
  simp [List.count_append, List.count_cons]

/-- Characters are sent back to back, each bit for 16 sample periods (R140, R141). -/
theorem LineConfig.length_wave (cfg : LineConfig) (bs : List Byte) :
    (cfg.wave bs).length = cfg.lineSamples bs.length := by
  have each (xs : List LineLevel) : (xs.flatMap fun x => List.replicate 16 x).length = xs.length * 16 := by
    simp [List.length_flatMap]
  induction bs with
  | nil => simp [LineConfig.wave, LineConfig.lineSamples]
  | cons b bs ih =>
    rw [← List.singleton_append, LineConfig.wave_append, List.length_append, ih, LineConfig.wave, List.flatMap_singleton,
      each, LineConfig.length_characterLevels, List.singleton_append, List.length_cons, LineConfig.lineSamples,
      LineConfig.lineSamples, Nat.succ_mul]
    omega

/-! ### Samples -/

/-- Each bit lasts 16 sample periods (R141). -/
theorem getD_flatMap_replicate (levels : List LineLevel) (k j : Nat) (hj : j < 16) (x : LineLevel) :
    (levels.flatMap (List.replicate 16)).getD (16 * k + j) x = levels.getD k x := by
  induction levels generalizing k with
  | nil => simp
  | cons y levels ih =>
    rw [List.flatMap_cons]
    cases k with
    | zero =>
      rw [Nat.mul_zero, Nat.zero_add, List.getD_append _ _ _ _ (by simpa using hj), List.getD_eq_getElem?_getD,
        List.getElem?_replicate, if_pos hj]
      rfl
    | succ k =>
      have shift : 16 * (k + 1) + j = 16 + (16 * k + j) := by omega
      rw [shift, List.getD_append_right _ _ _ _ (by simp)]
      simpa using ih k

/-- Whether most of three samples are at mark (R145). -/
theorem isMark_iff (x : BitSamples) :
    isMark x = true ↔ 2 ≤ [x.seventh, x.eighth, x.ninth].countP fun y => decide (y = .mark) := by
  obtain ⟨seventh, eighth, ninth⟩ := x
  cases seventh <;> cases eighth <;> cases ninth <;> decide

/-- The sum of distinct powers of two has just their bits. -/
theorem getLsbD_sum_powers (f : Fin 8 → Bool) (k : Fin 8) :
    (byteOf ((List.finRange 8).map fun i => if f i then 2 ^ i.val else 0).sum).getLsbD k.val = f k := by
  have scaled (i : Fin 8) : (if f i then 2 ^ i.val else 0) = 2 ^ i.val * (f i).toNat := by cases f i <;> simp
  have indices : List.finRange 8 = [0, 1, 2, 3, 4, 5, 6, 7] := rfl
  have digits : ((List.finRange 8).map fun i => if f i then 2 ^ i.val else 0).sum =
      Nat.bit (f 0) (Nat.bit (f 1) (Nat.bit (f 2) (Nat.bit (f 3) (Nat.bit (f 4) (Nat.bit (f 5) (Nat.bit (f 6)
        (Nat.bit (f 7) 0))))))) := by
    simp only [scaled, indices, List.map_cons, List.map_nil, List.sum_cons, List.sum_nil, Nat.bit_val]
    simp
    omega
  rw [digits, byteOf, BitVec.getLsbD_ofNat, decide_eq_true k.isLt, Bool.true_and]
  fin_cases k <;> simp [Nat.testBit_bit_succ]

theorem getLsbD_dataBits (v : Vector BitSamples 8) (k : Fin 8) : (dataBits v).getLsbD k.val = isMark v[k] :=
  getLsbD_sum_powers (fun i => isMark v[i]) k

theorem markCount_eq (v : Vector BitSamples 8) : markCount v = v.toList.countP isMark :=
  List.countP_eq_length_filter.symm

theorem markCount_eq_zero_iff (v : Vector BitSamples 8) : markCount v = 0 ↔ ∀ k : Fin 8, isMark v[k] = false := by
  rw [markCount_eq, List.countP_eq_zero]
  constructor
  · intro none k
    exact Bool.eq_false_iff.2 (none _ (by simp))
  · intro none x listed
    obtain ⟨k, hk, rfl⟩ := List.mem_iff_getElem.1 listed
    have := none ⟨k, by simpa using hk⟩
    simpa using this

/-- The samples of a bit that is sent are its level (R141, R145). -/
theorem isMark_bitSamples_wave (cfg : LineConfig) (b : Byte) (k : Nat) :
    isMark (bitSamples (cfg.wave [b]) k) = decide ((cfg.characterLevels b).getD k .mark = .mark) := by
  have wave : cfg.wave [b] = (cfg.characterLevels b).flatMap (List.replicate 16) := by
    rw [LineConfig.wave, List.flatMap_singleton]
  rw [bitSamples, wave, getD_flatMap_replicate _ _ _ (by decide), getD_flatMap_replicate _ _ _ (by decide),
    getD_flatMap_replicate _ _ _ (by decide), isMark, readBit, if_pos rfl]

theorem isMark_data_sent (cfg : LineConfig) (b : Byte) (k : Fin 8) :
    isMark (cfg.samplesSeen (cfg.wave [b])).data[k] = b.getLsbD k.val := by
  have sampled : (cfg.samplesSeen (cfg.wave [b])).data[k] = bitSamples (cfg.wave [b]) (1 + k.val) := by
    simp [LineConfig.samplesSeen]
  rw [sampled, isMark_bitSamples_wave, List.getD_eq_getElem?_getD, LineConfig.getElem?_data cfg b k.isLt]
  cases b.getLsbD k.val <;> rfl

theorem markCount_sent (cfg : LineConfig) (b : Byte) :
    markCount (cfg.samplesSeen (cfg.wave [b])).data = (dataLevels b).count .mark := by
  have samples : (cfg.samplesSeen (cfg.wave [b])).data.toList =
      (List.finRange 8).map fun k => (cfg.samplesSeen (cfg.wave [b])).data[k] := by
    exact List.ext_getElem (by simp) fun k _ _ => by rw [List.getElem_map, List.getElem_finRange]; rfl
  have levels : dataLevels b = (List.finRange 8).map fun k => bitLevel (b.getLsbD k.val) := rfl
  rw [markCount_eq, samples, levels, List.count, List.countP_map, List.countP_map]
  refine List.countP_congr fun k _ => ?_
  rw [Function.comp_apply, isMark_data_sent, Function.comp_apply]
  cases b.getLsbD k.val <;> decide

/-- A character that is sent is judged as itself (R139, R145). -/
theorem judge_sent (cfg : LineConfig) (b : Byte) :
    judge cfg.parity (cfg.samplesSeen (cfg.wave [b])) = .character b := by
  have stops : 0 < cfg.stopBits.bits := by cases cfg.stopBits <;> decide
  have start : isMark (cfg.samplesSeen (cfg.wave [b])).start = false := isMark_bitSamples_wave cfg b 0
  have stop : isMark (cfg.samplesSeen (cfg.wave [b])).stop = true := by
    refine (isMark_bitSamples_wave cfg b (9 + cfg.parity.bits)).trans ?_
    rw [List.getD_eq_getElem?_getD,
      LineConfig.getElem?_stop cfg b (Nat.le_refl _) (by rw [LineConfig.characterBits]; omega)]
    rfl
  have parity : isMark (cfg.samplesSeen (cfg.wave [b])).parity =
      decide (((cfg.parity.levels b ++ List.replicate cfg.stopBits.bits .mark)[0]?).getD .mark = .mark) := by
    refine (isMark_bitSamples_wave cfg b 9).trans ?_
    rw [List.getD_eq_getElem?_getD, LineConfig.getElem?_parity]
  have right : parityRight cfg.parity (cfg.samplesSeen (cfg.wave [b])) = true := by
    unfold parityRight
    dsimp only
    rw [markCount_sent, parity]
    cases cfg.parity with
    | none => rfl
    | even => simpa [Parity.levels] using even_marks ((dataLevels b).count .mark)
    | odd => simpa [Parity.levels] using odd_marks ((dataLevels b).count .mark)
  have byte : dataBits (cfg.samplesSeen (cfg.wave [b])).data = b :=
    BitVec.eq_of_getLsbD_eq fun k hk => by
      rw [getLsbD_dataBits _ ⟨k, hk⟩]
      exact isMark_data_sent cfg b ⟨k, hk⟩
  simp only [judge, start, stop, right, byte]
  rfl

/-- Settles O46. -/
theorem characterSamplesAreJudgedInOrder : Obligations.CharacterSamplesAreJudgedInOrder := by
  refine ⟨fun cfg => ⟨fun j => decide_eq_true_iff, fun j => rfl, ?_, ?_, ?_, fun b => ?_⟩, fun cfg bs => ⟨rfl, ?_⟩,
    fun cfg levels => ⟨rfl, fun k => ?_, rfl, ?_, ?_⟩, fun p c => ?_⟩
  · rw [LineConfig.countP_longPeriod]; omega
  · rw [LineConfig.groupPeriods, LineConfig.sum_samplePeriod]; omega
  · rw [LineConfig.characterBits, Parity.bits_eq]
    cases cfg.stopBits <;> rfl
  · intro levels marks
    refine ⟨LineConfig.length_characterLevels cfg b, rfl, fun k hk => LineConfig.getElem?_data cfg b hk, fun even => ?_,
      fun odd => ?_, fun k after within => LineConfig.getElem?_stop cfg b ?_ within, judge_sent cfg b⟩
    · have parity : cfg.parity.levels b = [bitLevel (decide ((dataLevels b).count .mark % 2 = 1))] := by rw [even]; rfl
      exact (congrArg (· % 2) (LineConfig.count_mark cfg b parity)).trans (even_marks _)
    · have parity : cfg.parity.levels b = [bitLevel (!decide ((dataLevels b).count .mark % 2 = 1))] := by
        rw [odd]; rfl
      exact (congrArg (· % 2) (LineConfig.count_mark cfg b parity)).trans (odd_marks _)
    · rw [Parity.bits_eq]
      split at after <;> simp_all
  · exact LineConfig.length_wave cfg bs
  · have sampled : (cfg.samplesSeen levels).data[k] = bitSamples levels (1 + k.val) := by
      simp [LineConfig.samplesSeen]
    rw [sampled]
    rfl
  · have place : 9 + cfg.parity.bits = if cfg.parity = .none then 9 else 10 := by
      rw [Parity.bits_eq]
      split <;> rfl
    rw [← place]
    rfl
  · simp [LineConfig.samplesSeen]
  · intro mark marks someMark parityWrong
    have reads (x : BitSamples) : isMark x = decide (mark x) := by
      rw [Bool.eq_iff_iff, decide_eq_true_iff]
      exact isMark_iff x
    have counted : markCount c.data + (if isMark c.parity = true then 1 else 0) = marks := by
      simp only [marks, List.countP_append, List.countP_singleton, markCount_eq, reads]
      rw [funext reads]
    have right : parityRight p c = true ↔ ¬ parityWrong := by
      unfold parityRight
      dsimp only
      rw [counted]
      cases p <;> simp [parityWrong]
    have spaces : allSpace p c = true ↔ ¬ someMark := by
      simp [allSpace, someMark, markCount_eq_zero_iff, reads, or_iff_not_imp_left]
    have start : isMark c.start = true ↔ mark c.start := isMark_iff _
    have stop : isMark c.stop = true ↔ mark c.stop := isMark_iff _
    refine ⟨fun high => ?_, fun low low' quiet => ?_, fun low low' noisy => ?_, fun low high wrong => ?_,
      fun low high fits => ⟨dataBits c.data, ?_, fun k => ?_⟩⟩
    · rw [judge, if_pos (start.2 high)]
    · rw [judge, if_neg (mt start.1 low), if_pos (by simpa using mt stop.1 low'), if_pos (spaces.2 quiet)]
      cases c.heldAtSpace <;> rfl
    · rw [judge, if_neg (mt start.1 low), if_pos (by simpa using mt stop.1 low'),
        if_neg fun all => spaces.1 all noisy]
    · rw [judge, if_neg (mt start.1 low), if_neg (by simpa using stop.2 high),
        if_pos (by simpa using fun is => right.1 is wrong)]
    · rw [judge, if_neg (mt start.1 low), if_neg (by simpa using stop.2 high), if_neg (by simpa using right.2 fits)]
    · rw [getLsbD_dataBits, reads]

end Sys2Proof.Machine
end

section
/-! PROOFS. Frames on the line (O49): the check sequence, the four checks of a received frame, and the delivery of a
frame character by character. -/

namespace Sys2Proof.Machine
set_option Elab.async false

variable {s t : State} {l : LinkNo} {f : Frame}

/-! ### The check sequence (R117) -/

theorem crcBit_eq (r : Word) : crcBit r = if 0x8000 ≤ r.toNat then (r <<< 1) ^^^ 0x1021 else r <<< 1 := by
  have top : r.getLsbD 15 = true ↔ 0x8000 ≤ r.toNat := by
    have := r.isLt
    rw [BitVec.getLsbD, Nat.testBit_eq_decide_div_mod_eq, decide_eq_true_iff]
    omega
  exact if_congr top rfl rfl

theorem pack_zero (b : Byte) : pack b 0 = b.setWidth 16 <<< 8 := by
  apply BitVec.eq_of_toNat_eq
  have := b.isLt
  rw [toNat_pack, BitVec.toNat_shiftLeft, BitVec.toNat_setWidth, Nat.shiftLeft_eq]
  simp
  omega

/-- A byte is taken into the CRC register bit by bit (R117). -/
theorem crc16_append (bs : List Byte) (b : Byte) :
    crc16 (bs ++ [b]) = (List.range 8).foldl
      (fun (r : Word) _ => if 0x8000 ≤ r.toNat then (r <<< 1) ^^^ 0x1021 else r <<< 1)
      (crc16 bs ^^^ (b.setWidth 16 <<< 8)) := by
  rw [crc16, List.foldl_append, List.foldl_cons, List.foldl_nil, crcByte, pack_zero]
  have bits : List.range 8 = [0, 1, 2, 3, 4, 5, 6, 7] := rfl
  simp only [bits, List.foldl_cons, List.foldl_nil, crcBit_eq]
  rfl

theorem hiByte_pack (hi lo : Byte) : hiByte (pack hi lo) = hi := by
  apply BitVec.eq_of_toNat_eq
  rw [toNat_hiByte, toNat_pack]
  have := lo.isLt
  omega

/-! ### The four checks (R119) -/

/-- The lengths that R115 gives, CRC included. -/
def lengthFits (k n : Nat) : Prop :=
  (k = 1 ∧ n = 7) ∨ (k = 2 ∧ n = 9) ∨ (k = 3 ∧ n = 8) ∨ (k = 4 ∧ n = 8) ∨ (k = 5 ∧ n = 8)
    ∨ (k = 6 ∧ n = 7) ∨ (k = 7 ∧ 9 ≤ n ∧ n ≤ 40) ∨ (k = 8 ∧ n = 9) ∨ (k = 9 ∧ n = 7)

theorem lengthOk_iff (k n : Nat) : lengthOk k n = true ↔ lengthFits k n := by
  unfold lengthOk
  split
  case h_10 => simp_all [lengthFits]
  all_goals simp [lengthFits]

theorem lengthFits_bounds {k n : Nat} (h : lengthFits k n) : 7 ≤ n ∧ n ≤ 40 ∧ 1 ≤ k ∧ k ≤ 9 := by
  unfold lengthFits at h
  omega

/-- Bytes of a length that fits their kind hold a frame (R115). -/
theorem parseBytes_of_fits {kind : Byte} {body : List Byte} (fits : lengthFits kind.toNat (body.length + 3)) :
    ∃ f : Frame, parseBytes (kind :: body) = some f ∧ f.bytes = kind :: body ∧ f.fits := by
  have bounds := lengthFits_bounds fits
  obtain ⟨a, b, c, d, rest, rfl⟩ : ∃ a b c d rest, body = a :: b :: c :: d :: rest := by
    match body, bounds.1 with
    | a :: b :: c :: d :: rest, _ => exact ⟨a, b, c, d, rest, rfl⟩
  have of (n : Nat) (is : kind.toNat = n) : kind = byteOf n := by rw [← is]; simp [byteOf]
  simp only [List.length_cons] at fits
  rcases fits with ⟨k, n⟩ | ⟨k, n⟩ | ⟨k, n⟩ | ⟨k, n⟩ | ⟨k, n⟩ | ⟨k, n⟩ | ⟨k, n, m⟩ | ⟨k, n⟩ | ⟨k, n⟩
  all_goals obtain rfl := of _ k
  · obtain rfl := List.length_eq_zero_iff.1 (show rest.length = 0 by omega)
    refine ⟨.hello (pack a b) (pack c d), rfl, ?_, trivial⟩
    simp only [Frame.bytes, hiByte_pack, loByte_pack]
    rfl
  · obtain ⟨e, f, rfl⟩ := List.length_eq_two.1 (show rest.length = 2 by omega)
    exact ⟨.openRequest ⟨a, b, c, d⟩ e f, rfl, rfl, trivial⟩
  · obtain ⟨e, rfl⟩ := List.length_eq_one_iff.1 (show rest.length = 1 by omega)
    exact ⟨.accept ⟨a, b, c, d⟩ e, rfl, rfl, trivial⟩
  · obtain ⟨e, rfl⟩ := List.length_eq_one_iff.1 (show rest.length = 1 by omega)
    exact ⟨.refuse ⟨a, b, c, d⟩ e, rfl, rfl, trivial⟩
  · obtain ⟨e, rfl⟩ := List.length_eq_one_iff.1 (show rest.length = 1 by omega)
    exact ⟨.close ⟨a, b, c, d⟩ e, rfl, rfl, trivial⟩
  · obtain rfl := List.length_eq_zero_iff.1 (show rest.length = 0 by omega)
    exact ⟨.closed ⟨a, b, c, d⟩, rfl, rfl, trivial⟩
  · obtain ⟨e, x, payload, rfl⟩ : ∃ e x payload, rest = e :: x :: payload := by
      match rest, n with
      | e :: x :: payload, _ => exact ⟨e, x, payload, rfl⟩
    refine ⟨.data ⟨a, b, c, d⟩ e (x :: payload), rfl, rfl, ?_⟩
    simp only [List.length_cons] at m
    constructor
    · simp
    · simp only [List.length_cons]; omega
  · obtain ⟨e, f, rfl⟩ := List.length_eq_two.1 (show rest.length = 2 by omega)
    refine ⟨.grant ⟨a, b, c, d⟩ (pack e f), rfl, ?_, trivial⟩
    simp only [Frame.bytes, headerBytes, hiByte_pack, loByte_pack]
    rfl
  · obtain rfl := List.length_eq_zero_iff.1 (show rest.length = 0 by omega)
    exact ⟨.ask ⟨a, b, c, d⟩, rfl, rfl, trivial⟩

/-- The layout of a frame gives the frame back (R115). -/
theorem parseBytes_bytes (fits : f.fits) : parseBytes f.bytes = some f := by
  cases f with
  | hello epoch seen =>
    refine Eq.trans (b := some (.hello (pack (hiByte epoch) (loByte epoch)) (pack (hiByte seen) (loByte seen)))) rfl ?_
    rw [pack_hiByte_loByte, pack_hiByte_loByte]
  | grant hdr limit =>
    refine Eq.trans (b := some (.grant hdr (pack (hiByte limit) (loByte limit)))) rfl ?_
    rw [pack_hiByte_loByte]
  | data hdr sequence payload =>
    cases payload with
    | nil => exact absurd fits.1 (by simp)
    | cons b payload => rfl
  | openRequest | accept | refuse | close | closed | ask => rfl

/-- The length of a frame, its CRC included, is the one of its kind (R115). -/
theorem Frame.lengthFits_bytes (fits : f.fits) :
    ∃ kind body, f.bytes = kind :: body ∧ lengthFits kind.toNat (body.length + 3) := by
  cases f with
  | data hdr sequence payload =>
    obtain ⟨least, most⟩ := fits
    refine ⟨_, _, rfl, ?_⟩
    simp [lengthFits, headerBytes]
    omega
  | hello | openRequest | accept | refuse | close | closed | grant | ask =>
    exact ⟨_, _, rfl, by simp [lengthFits, headerBytes]⟩

/-! #### One equation for each check -/

section checks
variable {kind : Byte} {rest : List Byte}

theorem checkFrame_of_short (short : (kind :: rest).length < 7) : checkFrame (kind :: rest) = .error .badLength :=
  if_pos short

theorem checkFrame_of_unknownKind (long : 7 ≤ (kind :: rest).length) (unknown : kind.toNat = 0 ∨ 9 < kind.toNat) :
    checkFrame (kind :: rest) = .error .unknownKind := by
  have : (kind.toNat < 1 || 9 < kind.toNat : Bool) = true := by simp; omega
  exact (if_neg (by omega)).trans (if_pos this)

theorem checkFrame_of_not_lengthFits (long : 7 ≤ (kind :: rest).length) (least : 1 ≤ kind.toNat)
    (most : kind.toNat ≤ 9) (misfit : ¬ lengthFits kind.toNat (kind :: rest).length) :
    checkFrame (kind :: rest) = .error .badLength := by
  have known : ¬ (kind.toNat < 1 || 9 < kind.toNat : Bool) = true := by simp; omega
  have wrong : (!lengthOk kind.toNat (kind :: rest).length) = true := by
    rw [← lengthOk_iff] at misfit
    simpa using misfit
  exact (if_neg (by omega)).trans ((if_neg known).trans (if_pos wrong))

/-- Bytes of a length that fits their kind are judged by their CRC alone. -/
theorem checkFrame_of_lengthFits (fits : lengthFits kind.toNat (kind :: rest).length) :
    checkFrame (kind :: rest) =
      if (kind :: rest).drop ((kind :: rest).length - 2) ≠
          [hiByte (crc16 ((kind :: rest).take ((kind :: rest).length - 2))),
            loByte (crc16 ((kind :: rest).take ((kind :: rest).length - 2)))] then .error .crc
      else
        match parseBytes ((kind :: rest).take ((kind :: rest).length - 2)) with
        | some f => .ok f
        | none => .error .badLength := by
  obtain ⟨long, -, least, most⟩ := lengthFits_bounds fits
  have known : ¬ (kind.toNat < 1 || 9 < kind.toNat : Bool) = true := by simp; omega
  have right : ¬ (!lengthOk kind.toNat (kind :: rest).length) = true := by
    rw [(lengthOk_iff _ _).2 fits]; simp
  exact (if_neg (by omega)).trans ((if_neg known).trans (if_neg right))

end checks

/-- The bytes of a length that fits and of the right CRC are those of one frame, which passes (R119). -/
theorem checkFrame_of_crc {kind : Byte} {body : List Byte} (fits : lengthFits kind.toNat (body.length + 3)) :
    ∃ f : Frame, f.fits ∧ f.bytes = kind :: body ∧ checkFrame f.whole = .ok f := by
  obtain ⟨f, parsed, bytes, good⟩ := parseBytes_of_fits fits
  refine ⟨f, good, bytes, ?_⟩
  let check : List Byte := [hiByte (crc16 (kind :: body)), loByte (crc16 (kind :: body))]
  have size : (kind :: (body ++ check)).length = (kind :: body).length + 2 := by simp [check]
  have front : (kind :: (body ++ check)).take ((kind :: (body ++ check)).length - 2) = kind :: body := by
    rw [size]; exact List.take_left
  have back : (kind :: (body ++ check)).drop ((kind :: (body ++ check)).length - 2) = check := by
    rw [size]; exact List.drop_left
  have whole : f.whole = kind :: (body ++ check) := by rw [Frame.whole, bytes]; rfl
  rw [whole, checkFrame_of_lengthFits (by rw [size]; exact fits), front, back, if_neg (by simp [check]), parsed]

/-! ### Delivery, character by character (R116, R118) -/

/-- The part whose link has gathered these bytes of a frame. -/
def State.gathered (s : State) (l : LinkNo) (bytes : List Byte) : State :=
  s.setLink l { s.link l with assembly := .gather, buffer := bytes }

@[simp] theorem State.link_gathered (s : State) (l : LinkNo) (bytes : List Byte) :
    (s.gathered l bytes).link l = { s.link l with assembly := .gather, buffer := bytes } := by
  simp [State.gathered]

theorem State.gathered_gathered (s : State) (l : LinkNo) (bytes more : List Byte) :
    (s.gathered l bytes).setLink l { (s.gathered l bytes).link l with assembly := .gather, buffer := more } =
      s.gathered l more := by
  rw [State.link_gathered, State.gathered, State.setLink_setLink]; rfl

/-- A byte that joins the buffer, as the assembly has it. -/
theorem gatherByte_of_room {bytes : List Byte} (room : bytes.length < 40) (b : Byte) :
    gatherByte bytes b = (.gather, bytes ++ [b], .nothing) := if_neg (Nat.not_le.2 room)

/-- The characters of one byte, stuffed or not, add that byte to what the link has gathered. -/
theorem State.deliver_stuffByte (runs : (s.link l).state ≠ .stopped) {bytes : List Byte} (room : bytes.length < 40)
    (b : Byte) : (stuffByte b).foldl (fun t b => t.deliver l b) (s.gathered l bytes) = s.gathered l (bytes ++ [b]) := by
  have running : ((s.gathered l bytes).link l).state ≠ .stopped := by rw [State.link_gathered]; exact runs
  -- an escape, and the character that stands for the byte
  have stuffed (c d : Byte) (plain : assemble .escaped bytes d = gatherByte bytes c) :
      [escape, d].foldl (fun t b => t.deliver l b) (s.gathered l bytes) = s.gathered l (bytes ++ [c]) := by
    have first : (s.gathered l bytes).deliver l escape =
        s.setLink l { s.link l with assembly := .escaped, buffer := bytes } := by
      rw [State.deliver_of_nothing running (a := .escaped) (buffer := bytes) (by rw [State.link_gathered]; rfl),
        State.link_gathered, State.gathered, State.setLink_setLink]
    rw [List.foldl_cons, first, List.foldl_cons, List.foldl_nil,
      State.deliver_of_nothing (a := .gather) (buffer := bytes ++ [c])
        (by rw [State.link_setLink_self]; exact runs)
        (by rw [State.link_setLink_self]; exact plain.trans (gatherByte_of_room room c)),
      State.link_setLink_self, State.setLink_setLink]
    rfl
  unfold stuffByte
  split
  case isTrue isDelimiter => subst isDelimiter; exact stuffed _ _ rfl
  case isFalse noDelimiter =>
    split
    case isTrue isEscape => subst isEscape; exact stuffed _ _ rfl
    case isFalse noEscape =>
      have joins : assemble .gather bytes b = (.gather, bytes ++ [b], .nothing) := by
        rw [assemble, if_neg noDelimiter, if_neg noEscape, gatherByte_of_room room]
      rw [List.foldl_cons, List.foldl_nil,
        State.deliver_of_nothing running (by rw [State.link_gathered]; exact joins), State.gathered_gathered]

theorem State.deliver_stuff (runs : (s.link l).state ≠ .stopped) (bs : List Byte) :
    ∀ bytes : List Byte, bytes.length + bs.length ≤ 40 →
      (stuff bs).foldl (fun t b => t.deliver l b) (s.gathered l bytes) = s.gathered l (bytes ++ bs) := by
  induction bs with
  | nil => intro bytes _; rw [List.append_nil]; rfl
  | cons b bs ih =>
    intro bytes size
    rw [List.length_cons] at size
    rw [stuff, List.flatMap_cons, List.foldl_append, State.deliver_stuffByte runs (by omega) b, ← stuff,
      ih _ (by rw [List.length_append, List.length_singleton]; omega), List.append_assoc, List.singleton_append]

/-- The delimiter in front of a frame, between frames or in HUNT. -/
theorem State.deliver_openingDelimiter (runs : (s.link l).state ≠ .stopped)
    (between : (s.link l).assembly = .hunt ∨ ((s.link l).assembly = .gather ∧ (s.link l).buffer = [])) :
    s.deliver l delimiter = s.gathered l [] := by
  have starts : assemble (s.link l).assembly (s.link l).buffer delimiter = (.gather, [], .nothing) := by
    rcases between with hunt | ⟨gather, empty⟩
    · rw [hunt]; rfl
    · rw [gather, empty]; rfl
  exact State.deliver_of_nothing runs starts

/-- What a frame does, whatever the link has gathered. -/
theorem State.handleFrame_gathered (s : State) (l : LinkNo) (bytes : List Byte) (f : Frame) :
    (s.gathered l bytes).handleFrame l f = s.handleFrame l f := by
  have ended : (s.gathered l bytes).endAssembly l .gather = s.endAssembly l .gather := by
    rw [State.endAssembly, State.onLink, State.link_gathered, State.gathered, State.setLink_setLink]
    rfl
  rw [State.handleFrame, ended]
  rfl

theorem Frame.whole_bounds (fits : f.fits) : 1 ≤ f.whole.length ∧ f.whole.length ≤ 40 := by
  obtain ⟨kind, body, bytes, size⟩ := Frame.lengthFits_bytes fits
  obtain ⟨-, most, -⟩ := lengthFits_bounds size
  rw [Frame.whole, bytes, List.length_append, List.length_cons]
  simp only [List.length_cons, List.length_nil]
  omega

/-- A frame passes its check as itself (R115, R119). -/
theorem checkFrame_whole (fits : f.fits) : checkFrame f.whole = .ok f := by
  obtain ⟨kind, body, bytes, size⟩ := Frame.lengthFits_bytes fits
  obtain ⟨g, good, same, passes⟩ := checkFrame_of_crc size
  have : some g = some f := by rw [← parseBytes_bytes good, ← parseBytes_bytes fits, same, bytes]
  obtain rfl := Option.some.inj this
  exact passes

/-- The characters of a frame, delivered one by one, are the frame taken whole. -/
theorem State.deliver_lineCharacters (fits : f.fits) (runs : (s.link l).state ≠ .stopped)
    (between : (s.link l).assembly = .hunt ∨ ((s.link l).assembly = .gather ∧ (s.link l).buffer = [])) :
    (lineCharacters f).foldl (fun t b => t.deliver l b) s = s.handleFrame l f := by
  obtain ⟨least, most⟩ := Frame.whole_bounds fits
  have running : ((s.gathered l f.whole).link l).state ≠ .stopped := by rw [State.link_gathered]; exact runs
  have ends : assemble ((s.gathered l f.whole).link l).assembly ((s.gathered l f.whole).link l).buffer delimiter =
      (.gather, [], .frameEnd f.whole) := by
    rw [State.link_gathered]
    have : f.whole.isEmpty = false := by simpa using List.ne_nil_of_length_pos least
    simp only [assemble, this, if_true, Bool.false_eq_true, if_false]
  rw [lineCharacters, List.foldl_append, List.foldl_cons, List.foldl_nil, List.foldl_cons,
    State.deliver_openingDelimiter runs between, State.deliver_stuff runs _ _ (by simpa using most), List.nil_append,
    State.deliver_of_frameEnd running ends, checkFrame_whole fits]
  exact State.handleFrame_gathered s l f.whole f

/-- Settles O49: the layout, the CRC and the stuffing are the model's; the four checks have one equation each; and the
delivery follows the bytes of the frame, each of which joins what the link has gathered. -/
theorem framesSurviveTheLine : Obligations.FramesSurviveTheLine := by
  unfold Obligations.FramesSurviveTheLine
  refine ⟨?_, fun _ => rfl, ⟨rfl, crc16_append⟩, fun _ => rfl, ?_, fun _ => checkFrame_whole,
    fun s l f => State.deliver_lineCharacters⟩
  · intro e n limit h service quota reason sequence payload
    exact ⟨rfl, rfl, rfl, rfl, rfl, rfl, rfl, rfl, rfl⟩
  · intro kind rest
    refine ⟨checkFrame_of_short, checkFrame_of_unknownKind, checkFrame_of_not_lengthFits, ?_, ?_⟩
    · intro fits misfit
      rw [checkFrame_of_lengthFits fits]
      exact if_pos misfit
    · intro fits right
      obtain ⟨long, -⟩ := lengthFits_bounds fits
      rw [List.length_cons] at long
      have split := List.take_append_drop ((kind :: rest).length - 2) (kind :: rest)
      have front : (kind :: rest).take ((kind :: rest).length - 2) = kind :: rest.take (rest.length - 2) := by
        rw [List.length_cons, show rest.length + 1 - 2 = rest.length - 2 + 1 by omega, List.take_succ_cons]
      have size : (rest.take (rest.length - 2)).length + 3 = (kind :: rest).length := by
        rw [List.length_take, List.length_cons]; omega
      obtain ⟨f, good, bytes, passes⟩ := checkFrame_of_crc (kind := kind) (by rw [size]; exact fits)
      have whole : f.whole = kind :: rest := by
        rw [Frame.whole, bytes, ← front, ← right, split]
      exact ⟨f, good, whole, by rw [← whole]; exact passes⟩

end Sys2Proof.Machine
end
